-- ==== Sys2Proof/Word.lean ====
section
/-! DEFINITION. The word types of LA32R (00_scope.md R7, R8, R9; 10_state.md R20): widths only. -/

namespace Sys2Proof

/-- A 32-bit word: a general register, the PC, a CSR, an instruction (`GRLEN` = 32, R7). -/
abbrev Word := BitVec 32

/-- One byte of memory. -/
abbrev Byte := BitVec 8

/-- A 5-bit register number (R20, R172). -/
abbrev Reg := BitVec 5

end Sys2Proof
end

