-- ==== Sys2Proof/Machine/Bits.lean ====
section
/-! DEFINITION. Bit slices of a word: reading a field, writing a field, placing a field of an encoding (00_scope.md
R8, R9). -/

namespace Sys2Proof

/-- `w[lo+n-1:lo]` (R8). -/
def bits (lo n : Nat) (w : Word) : BitVec n := w.extractLsb' lo n

/-- `w[k]` as a truth value (R8). -/
def bit (k : Nat) (w : Word) : Bool := w.getLsbD k

/-- The word whose bits `[lo+n-1:lo]` are `v` and whose other bits are 0. -/
def place (lo : Nat) {n : Nat} (v : BitVec n) : Word := v.setWidth 32 <<< lo

/-- `w` with bits `[lo+n-1:lo]` replaced by `v`. -/
def setBits (lo : Nat) {n : Nat} (v : BitVec n) (w : Word) : Word :=
  (w &&& ~~~ place lo (BitVec.allOnes n)) ||| place lo v

/-- A truth value as one bit. -/
def flag (b : Bool) : BitVec 1 := BitVec.ofBool b

/-- The word whose low n bits are 1 (n at most 32). -/
def lowMask (n : Nat) : Word := BitVec.ofNat 32 (2 ^ n - 1)

/-- `sext_32(v)` (R9). -/
def sext {n : Nat} (v : BitVec n) : Word := v.signExtend 32

/-- `zext_32(v)` (R9). -/
def zext {n : Nat} (v : BitVec n) : Word := v.setWidth 32

end Sys2Proof
end

