-- ==== Sys2Proof/Config.lean ====
section
/-! DEFINITION. What an implementation of LA32R fixes (the parameters of 00_scope.md R7), as one record of plain data
that the state carries and no step changes, and the free values (`draw(T)`, R11): constants with no body, so that
nothing can be proved of what they give. -/

namespace Sys2Proof.Config

/-- When a pending enabled interrupt is taken (R7 `INT_LATENCY`, R412). -/
inductive Latency where
  /-- at any boundary at which it is pending: the environment, or a free choice, says which -/
  | any
  /-- at the first such boundary -/
  | immediate
  deriving DecidableEq, Repr

/-- What a DBAR or IBAR with a non-zero hint does (R7 `DBAR_HINTS`, `IBAR_HINTS`; 92 D6). -/
inductive HintRule where
  /-- it is executed as hint 0 -/
  | asZero
  /-- the model declines to step -/
  | refuse
  deriving DecidableEq, Repr

/-- One range of physical addresses that exist (R114 `PhysMem`, 92 D24). DESIGN CHOICE, unsafe: 92 D24 lets the map say
which addresses are RAM, ROM or device; a range here has no kind, and every byte of it is taken for RAM
(notes/assumptions/19.md). -/
structure Region where
  base : Nat
  size : Nat
  deriving DecidableEq, Repr

/-- The parameters of R7, each with the default R7 gives; those R7 gives none for (`physMem`, `hasFpu`, `coreId`)
take the values of 95_test_vectors.md section 0 (notes/assumptions/2.md). -/
structure Params where
  /-- `PALEN`: physical address bits, at most 36 (R102) -/
  palen : Nat := 32
  /-- `PS_LARGE`: the PS value of the 4 MB page (92 D20) -/
  psLarge : BitVec 6 := 22
  /-- `TIMER_BITS`: width of the timer, at most 32 (R50, R60) -/
  timerBits : Nat := 32
  /-- log2 of `LINE_BYTES`, the block of the `stale` bookkeeping (47_privileged.md R354): 4 bytes by default -/
  lineOffset : Nat := 2
  /-- `HAS_FPU` (92 D2) -/
  hasFpu : Bool := false
  /-- `COREID` (R47) -/
  coreId : BitVec 9 := 0
  /-- `ADE_ON_PLV3_HIGH` (R112, 92 D4) -/
  adeOnPlv3High : Bool := true
  /-- `DIV_OVERFLOW_Q` (R241, 92 D5) -/
  divOverflowQ : Word := 0x80000000
  /-- `DIV_OVERFLOW_R` (R241, 92 D5) -/
  divOverflowR : Word := 0
  /-- `SC_CLEARS_LLBIT` (R301, 92 D12) -/
  scClearsLlbit : Bool := true
  /-- `SC_FAIL_CHECKS` (R301, 92 D41) -/
  scFailChecks : Bool := false
  /-- `SC_ADDR_CHECK` (R301, 93 U14) -/
  scAddrCheck : Bool := false
  /-- `INT_LATENCY` (R412, 92 D17) -/
  intLatency : Latency := .any
  /-- `DBAR_HINTS` (R310, 92 D6) -/
  dbarHints : HintRule := .asZero
  /-- `IBAR_HINTS` (R311, 92 D6) -/
  ibarHints : HintRule := .asZero
  /-- `PhysMem`: the physical addresses that exist (R114, 92 D24) -/
  physMem : List Region := [⟨0, 2 ^ 32⟩]
  deriving DecidableEq, Repr

/-- The parameter values a machine has after `State.reset`. -/
def defaults : Params := {}

/-- `draw(32 bits)` (R11): the n-th free word. -/
opaque freeWord : Nat → Word

/-- A free bit: `choose()` of R450. -/
opaque freeChoice : Nat → Bool

/-- A free count: the timer ticks between two instruction boundaries (R445), the advance of the Counter between two
reads (R59), the entry TLBFILL replaces (R363). -/
opaque freeCount : Nat → Nat

end Sys2Proof.Config
end

