-- ==== Sys2Proof/Machine/State.lean ====
section
/-! DEFINITION. The state of one LA32R core and its memory, as plain data (10_state.md), the reasons a step can stop,
and the state after reset (R65, R460). INVENTORY.md lists every field with its rule. -/

namespace Sys2Proof.Machine

open Sys2Proof

/-- Why the machine stops because the PROGRAM broke a rule D00 puts on software (00_scope.md R11, "model fault"). -/
inductive Fault where
  /-- more than one TLB entry matches a lookup (R128, 93 U1); raised by a translated access and by TLBSRCH. Safe: D00
  calls the result undetermined -/
  | tlbMultipleHit
  /-- an instruction fetch reads a byte this core stored and has not yet made visible to its fetches (R162, R354);
  raised by the fetch. Safe: the chip may give either value -/
  | staleFetch
  deriving DecidableEq, Repr

/-- Why the model declines to step (00_scope.md R11, `REFUSE`). Every one is safe: there is no next state. -/
inductive Refusal where
  /-- the instruction has no meaning yet; raised by an arm of `exec` -/
  | notModelled (mnemonic : String)
  /-- `CRMD.DA` = `CRMD.PG` (R125, 93 U13); raised at the start of a step and by a translation -/
  | addressModeUndefined
  /-- an access resolves to memory access type 2 or 3 (R142, 93 U4); raised by a fetch, an access, a Hit CACOP -/
  | accessTypeReserved
  /-- a physical address outside `PhysMem` (R114, 93 U34); raised by a fetch or an access -/
  | noPhysicalMemory
  /-- a TLB entry with E = 1 and a PS outside `LEGAL_PS` is written, or takes part in a lookup or a compare (R129, R364,
  93 U24); raised by TLBWR, TLBFILL, TLBSRCH, INVTLB 5 and 6 and translation -/
  | pageSizeIllegal
  /-- an uncached load or store of a byte whose newest value may be in a data cache (R354, 93 U16); raised by an
  access -/
  | uncachedAfterCached
  /-- LL.W or SC.W on an address whose access type is not CC (R305, 93 U2); raised by LL.W, SC.W -/
  | llscNotCached
  /-- PLV 1 or 2 written to CRMD, or restored from PRMD (R32, R375, 93 U12); raised by CSRWR, CSRXCHG, ERTN -/
  | privilegeLevelIllegal
  /-- `TLBIDX.Index` is not below `TLB_ENTRIES` (R361, R362, 93 U9); raised by TLBRD, TLBWR -/
  | tlbIndexOutOfRange
  /-- INVTLB 4, 5 or 6 with `x[rj][31:10]` not 0 (R365, 93 U25); raised by INVTLB -/
  | invtlbAsidBits
  /-- a CACOP code D00 gives no operation or no cache (R353, 93 U6, U7); raised by CACOP -/
  | cacopUndefined
  /-- Store Tag on a data or mixed cache after a cached store (R354, 93 U29); raised by CACOP -/
  | storeTagMayDiscard
  /-- a counter-read word with an unused register field that is not 0 (R180, 93 U28); raised by the decoder -/
  | counterReadNonCanonical
  /-- a non-zero barrier hint where the parameter says to refuse (R310, R311, 93 U22); raised by DBAR, IBAR -/
  | barrierHint
  /-- a floating-point instruction with the unit present and enabled (R330, 93 U35); raised by the 73 words of R331 -/
  | floatingPoint
  deriving DecidableEq, Repr

/-- The stored part of the CSRs (R31), each under its own name, as software reads and writes it. What a CSR reads from
elsewhere (ESTAT.IS[12:2], TVAL, LLBCTL.ROLLB, PGD, CPUID) is stored once, where it comes from. -/
structure Csrs where
  /-- 0x0 (R32) -/
  crmd : Word
  /-- 0x1 (R33) -/
  prmd : Word
  /-- 0x2 (R34) -/
  euen : Word
  /-- 0x4 (R35) -/
  ecfg : Word
  /-- 0x5 (R36): IS[1:0], Ecode and EsubCode -/
  estat : Word
  /-- 0x6 (R37) -/
  era : Word
  /-- 0x7 (R38) -/
  badv : Word
  /-- 0xC (R39) -/
  eentry : Word
  /-- 0x10 (R40) -/
  tlbidx : Word
  /-- 0x11 (R41) -/
  tlbehi : Word
  /-- 0x12 (R42) -/
  tlbelo0 : Word
  /-- 0x13 (R42) -/
  tlbelo1 : Word
  /-- 0x18 (R43): ASID; ASIDBITS is a constant of the read -/
  asid : Word
  /-- 0x19 (R44) -/
  pgdl : Word
  /-- 0x1A (R45) -/
  pgdh : Word
  /-- 0x30 (R48) -/
  save0 : Word
  /-- 0x31 (R48) -/
  save1 : Word
  /-- 0x32 (R48) -/
  save2 : Word
  /-- 0x33 (R48) -/
  save3 : Word
  /-- 0x40 (R49) -/
  tid : Word
  /-- 0x41 (R50) -/
  tcfg : Word
  /-- 0x60 (R53): KLO -/
  llbctl : Word
  /-- 0x88 (R54) -/
  tlbrentry : Word
  /-- 0x180 (R56) -/
  dmw0 : Word
  /-- 0x181 (R56) -/
  dmw1 : Word
  deriving DecidableEq, Repr

/-- One page of a TLB entry: its physical translation part (R58). `ppn` has room for `PALEN` = 36. -/
structure TlbPage where
  v : Bool
  d : Bool
  mat : BitVec 2
  plv : BitVec 2
  ppn : BitVec 24
  deriving DecidableEq, Repr

/-- One TLB entry: compare part and the even and odd page (R58). -/
structure TlbEntry where
  e : Bool
  asid : BitVec 10
  g : Bool
  ps : BitVec 6
  vppn : BitVec 19
  page0 : TlbPage
  page1 : TlbPage
  deriving DecidableEq, Repr

/-- The constant-frequency timer (R60, R445): the count, whether it runs, whether a one-shot count has expired since the
last load (its TVAL is then unspecified, 93 U33), and the latch read as ESTAT.IS[11]. -/
structure Timer where
  count : Word
  running : Bool
  expired : Bool
  pending : Bool
  deriving DecidableEq, Repr

/-- The three flags of one byte of the `stale` record (47_privileged.md R354). -/
structure StaleFlags where
  needWb : Bool
  needInv : Bool
  needIbar : Bool
  deriving DecidableEq, Repr

/-- The floating-point state that R63 names and no instruction of the model reads or writes (R330, R332). -/
structure FloatState where
  f : Vector (BitVec 64) 32
  fcc : BitVec 8
  fcsr0 : Word
  deriving DecidableEq, Repr

/-- What the environment does at one instruction boundary (the first lines of `Step`, R450). -/
structure EnvEvent where
  /-- reset is asserted (R460) -/
  reset : Bool := false
  /-- the eight hardware interrupt lines from here on (R61) -/
  hwi : BitVec 8 := 0
  /-- the inter-processor interrupt line from here on (R61) -/
  ipi : Bool := false
  /-- how many timer ticks pass (R445) -/
  ticks : Nat := 0
  /-- whether `llbit` is cleared from outside (R304, 93 U32) -/
  clearLlbit : Bool := false
  /-- bytes other agents store, by physical address (R156); coherent agents only (R163, notes/assumptions/26.md) -/
  writes : List Host.Cell := []
  /-- whether an interrupt that is pending and enabled at this boundary is taken (`choose()`, R412, R450) -/
  takeInterrupt : Bool := true
  deriving DecidableEq, Repr

/-- One core, its memory and its inputs. -/
structure State where
  /-- the implementation parameters of R7; no step changes them -/
  cfg : Config.Params
  /-- `x[0..31]` (R20); read and written by `readReg` and `writeReg` only -/
  gpr : Vector Word 32
  /-- the PC (R24) -/
  pc : Word
  /-- the CSRs (R29, R31) -/
  csr : Csrs
  /-- LLbit (R28) -/
  llbit : Bool
  /-- the physical address the last LL.W recorded (R28, R300) -/
  lladdr : Nat
  /-- `tlb[0 .. TLB_ENTRIES-1]` (R58); its length is `TLB_ENTRIES` -/
  tlb : List TlbEntry
  /-- the 64-bit Counter as last read (R59, R446) -/
  counter : BitVec 64
  /-- the timer (R60, R445) -/
  timer : Timer
  /-- the hardware interrupt lines, read as ESTAT.IS[9:2] (R61) -/
  hwi : BitVec 8
  /-- the IPI line, read as ESTAT.IS[12] (R61) -/
  ipi : Bool
  /-- waiting after IDLE (R62, R380) -/
  idle : Bool
  /-- the floating-point state (R63) -/
  fp : FloatState
  /-- physical memory (R102, R104): (address, byte), addresses rising, no byte equal to `unlistedByte` -/
  mem : List Host.Cell
  /-- the `stale` record (R162, R354): (physical address, flags), addresses rising -/
  stale : List (Nat × StaleFlags)
  /-- `cc_dirty` (R354): a cached store since reset -/
  ccDirty : Bool
  /-- the model's own: how many free values have been drawn (R11 `draw`) -/
  draws : Nat
  /-- the model's own: what the environment does at the coming boundaries; nothing when empty (R450) -/
  env : List EnvEvent
  deriving DecidableEq, Repr

/-- What a byte of memory that nothing has written reads as (DESIGN CHOICE, unsafe: notes/assumptions/4.md). -/
def unlistedByte : Byte := 0

/-- A TLB entry with every field 0. -/
def TlbEntry.zero : TlbEntry :=
  { e := false, asid := 0, g := false, ps := 0, vppn := 0,
    page0 := { v := false, d := false, mat := 0, plv := 0, ppn := 0 },
    page1 := { v := false, d := false, mat := 0, plv := 0, ppn := 0 } }

/-- The CSRs after reset: CRMD.DA = 1 and every other field 0. R65 states CRMD, EUEN, ECFG, ESTAT.IS[1:0], TCFG.En,
LLBCTL.KLO and DMW0/1.PLV0/PLV3; the other fields' 0 is the model's (DESIGN CHOICE: notes/assumptions/3.md). -/
def Csrs.reset : Csrs :=
  { crmd := 0x8, prmd := 0, euen := 0, ecfg := 0, estat := 0, era := 0, badv := 0, eentry := 0, tlbidx := 0,
    tlbehi := 0, tlbelo0 := 0, tlbelo1 := 0, asid := 0, pgdl := 0, pgdh := 0, save0 := 0, save1 := 0, save2 := 0,
    save3 := 0, tid := 0, tcfg := 0, llbctl := 0, tlbrentry := 0, dmw0 := 0, dmw1 := 0 }

/-- The machine right after reset (R65, R460, R461): the PC at 0x1C000000, the CSRs as above, nothing stale, not idle,
the timer stopped. What R65 calls unspecified is 0 here (DESIGN CHOICE, unsafe: notes/assumptions/3.md): `x[1..31]`,
`llbit`, `lladdr`, the TLB (8 empty entries), `counter`, the timer's count and latch, the input lines, floating-point
state. -/
def State.reset : State :=
  { cfg := Config.defaults, gpr := Vector.replicate 32 0, pc := 0x1C000000, csr := Csrs.reset, llbit := false,
    lladdr := 0, tlb := List.replicate 8 TlbEntry.zero, counter := 0,
    timer := { count := 0, running := false, expired := false, pending := false },
    hwi := 0, ipi := false, idle := false,
    fp := { f := Vector.replicate 32 0, fcc := 0, fcsr0 := 0 },
    mem := [], stale := [], ccDirty := false, draws := 0, env := [] }

end Sys2Proof.Machine
end

