-- ==== Sys2Proof/Machine/Fields.lean ====
section
/-! DEFINITION. The fields of the CSRs that hardware reads, each named after the field, at the bit positions of
10_state.md R32 to R56. -/

namespace Sys2Proof.Machine

open Sys2Proof

/-- CRMD.PLV (R32). -/
def crmdPlv (c : Csrs) : BitVec 2 := bits 0 2 c.crmd
/-- CRMD.IE (R32). -/
def crmdIe (c : Csrs) : Bool := bit 2 c.crmd
/-- CRMD.DA (R32). -/
def crmdDa (c : Csrs) : Bool := bit 3 c.crmd
/-- CRMD.PG (R32). -/
def crmdPg (c : Csrs) : Bool := bit 4 c.crmd
/-- CRMD.DATF (R32). -/
def crmdDatf (c : Csrs) : BitVec 2 := bits 5 2 c.crmd
/-- CRMD.DATM (R32). -/
def crmdDatm (c : Csrs) : BitVec 2 := bits 7 2 c.crmd
/-- PRMD.PPLV (R33). -/
def prmdPplv (c : Csrs) : BitVec 2 := bits 0 2 c.prmd
/-- PRMD.PIE (R33). -/
def prmdPie (c : Csrs) : Bool := bit 2 c.prmd
/-- EUEN.FPUen (R34). -/
def euenFpuen (c : Csrs) : Bool := bit 0 c.euen
/-- ESTAT.Ecode (R36). -/
def estatEcode (c : Csrs) : BitVec 6 := bits 16 6 c.estat
/-- ESTAT.EsubCode (R36). -/
def estatEsubcode (c : Csrs) : BitVec 9 := bits 22 9 c.estat
/-- The Ecode of the TLB-refill exception: Ecode = 0x3F says that a refill is being handled (R36, R364). -/
def ecodeTlbr : BitVec 6 := 0x3F
/-- TLBIDX.PS (R40). -/
def tlbidxPs (c : Csrs) : BitVec 6 := bits 24 6 c.tlbidx
/-- TLBIDX.NE (R40). -/
def tlbidxNe (c : Csrs) : Bool := bit 31 c.tlbidx
/-- TLBEHI.VPPN (R41). -/
def tlbehiVppn (c : Csrs) : BitVec 19 := bits 13 19 c.tlbehi
/-- ASID.ASID (R43). -/
def asidAsid (c : Csrs) : BitVec 10 := bits 0 10 c.asid
/-- TCFG.En (R50). -/
def tcfgEn (c : Csrs) : Bool := bit 0 c.tcfg
/-- TCFG.Periodic (R50). -/
def tcfgPeriodic (c : Csrs) : Bool := bit 1 c.tcfg
/-- LLBCTL.KLO (R53). -/
def llbctlKlo (c : Csrs) : Bool := bit 2 c.llbctl
/-- A window's PLV0 (R56). -/
def dmwPlv0 (w : Word) : Bool := bit 0 w
/-- A window's PLV3 (R56). -/
def dmwPlv3 (w : Word) : Bool := bit 3 w
/-- A window's MAT (R56). -/
def dmwMat (w : Word) : BitVec 2 := bits 4 2 w
/-- A window's PSEG (R56). -/
def dmwPseg (w : Word) : BitVec 3 := bits 25 3 w
/-- A window's VSEG (R56). -/
def dmwVseg (w : Word) : BitVec 3 := bits 29 3 w
/-- The entry address a register holds: its bits [31:6], then six zeros (R39, R54). -/
def entryOf (w : Word) : Word := w &&& ~~~lowMask 6

/-- n = ceil(log2(TLB_ENTRIES)), the width of TLBIDX.Index (R7 `TLB_IDX_BITS`). -/
def tlbIdxBits (s : State) : Nat := if s.tlb.length ≤ 1 then 0 else Nat.log2 (s.tlb.length - 1) + 1

/-- TLBIDX.Index (R40). -/
def tlbidxIndex (s : State) : Nat := (s.csr.tlbidx &&& lowMask (tlbIdxBits s)).toNat

/-- The timer's start value: InitVal, then two zeros, of `TIMER_BITS` bits (R50, R445). -/
def timerStart (cfg : Config.Params) (c : Csrs) : Word := c.tcfg &&& lowMask cfg.timerBits &&& ~~~lowMask 2

/-- ESTAT.IS[12:0]: the two software bits stored in ESTAT, the eight lines, bit 10 zero, the timer latch, the IPI line
(R36, R344). -/
def estatIs (s : State) : BitVec 13 :=
  flag s.ipi ++ flag s.timer.pending ++ (0#1) ++ s.hwi ++ bits 0 2 s.csr.estat

/-- ECFG.LIE[12:0], bit 10 zero (R35). -/
def ecfgLie (c : Csrs) : BitVec 13 := bits 0 13 c.ecfg &&& 0x1BFF#13

end Sys2Proof.Machine
end

