-- ==== Sys2Proof/Machine/Store.lean ====
section
/-! DEFINITION. Sparse data by natural-number key, held as a list with its keys strictly rising: the shape of memory and
of the `stale` record. Memory: one byte, and the little-endian accesses built from it in one place (20_memory.md R100,
R102, R104). -/

namespace Sys2Proof.Machine

open Sys2Proof

/-- The value at a key. -/
def lookupKey {β : Type} (k : Nat) : List (Nat × β) → Option β
  | [] => none
  | (a, x) :: t => if a = k then some x else lookupKey k t

/-- The list with `x` at key `k`, replacing what stood there. -/
def insertKey {β : Type} (k : Nat) (x : β) : List (Nat × β) → List (Nat × β)
  | [] => [(k, x)]
  | (a, y) :: t =>
    if k < a then (k, x) :: (a, y) :: t
    else if a = k then (k, x) :: t
    else (a, y) :: insertKey k x t

/-- The list without key `k`. -/
def eraseKey {β : Type} (k : Nat) : List (Nat × β) → List (Nat × β)
  | [] => []
  | (a, y) :: t => if a = k then t else (a, y) :: eraseKey k t

/-- The keys rise strictly, the first above `lo` (none: no bound). -/
def risingFrom {β : Type} (lo : Option Nat) : List (Nat × β) → Bool
  | [] => true
  | (a, _) :: t => (match lo with | none => true | some b => decide (b < a)) && risingFrom (some a) t

/-- Physical memory. -/
abbrev Memory := List Host.Cell

/-- The canonical form: addresses strictly rising, no byte equal to what an unlisted address reads as. -/
def Memory.wf (m : Memory) : Bool :=
  risingFrom none m && m.all fun c => c.2 != unlistedByte

/-- The byte at a physical address (R100, R102). -/
def readByte (m : Memory) (pa : Nat) : Byte :=
  match lookupKey pa m with
  | some b => b
  | none => unlistedByte

/-- Memory with byte `b` at physical address `pa`. -/
def writeByte (m : Memory) (pa : Nat) (b : Byte) : Memory :=
  if b = unlistedByte then eraseKey pa m else insertKey pa b m

/-- `MemRead(pa, n)`, zero-extended to a word: bits [8k+7:8k] are the byte at `pa + k` (R104). -/
def readLE (m : Memory) (pa : Nat) : Nat → Word
  | 0 => 0
  | n + 1 => zext (readByte m pa) ||| (readLE m (pa + 1) n <<< 8)

/-- `MemWrite(pa, n, v)`: the low n bytes of `v`, `v[8k+7:8k]` at `pa + k` (R104). -/
def writeLE (m : Memory) (pa : Nat) : Nat → Word → Memory
  | 0, _ => m
  | n + 1, v => writeLE (writeByte m pa (v.setWidth 8)) (pa + 1) n (v >>> 8)

/-- Whether physical address `pa` exists (R114 `PhysMem`). -/
def physExists (cfg : Config.Params) (pa : Nat) : Bool :=
  cfg.physMem.any fun r => decide (r.base ≤ pa) && decide (pa < r.base + r.size)

/-- Whether the n bytes from `pa` exist. -/
def physRange (cfg : Config.Params) (pa : Nat) : Nat → Bool
  | 0 => true
  | n + 1 => physExists cfg pa && physRange cfg (pa + 1) n

end Sys2Proof.Machine
end

