-- ==== Sys2Proof/Machine/Ops.lean ====
section
/-! DEFINITION. The operations every instruction is made of: registers, the PC, free values, the exceptions with the
one exception entry and the return from one (60_exceptions.md R401, R420 to R424, R430; 47_privileged.md R375), and how
an operation that may raise an exception ends a step. -/

namespace Sys2Proof.Machine

open Sys2Proof

/-- What a step answers. -/
abbrev Out := Host.Outcome State Fault Refusal

/-- `x[i]`: `x[0]` reads 0 (R10, R21). -/
def readReg (s : State) (r : Reg) : Word :=
  if r = 0 then 0 else s.gpr[r.toNat]'r.isLt

/-- `x[i] <- v`: a write to `x[0]` is discarded (R10, R21). -/
def writeReg (s : State) (r : Reg) (v : Word) : State :=
  if r = 0 then s else { s with gpr := s.gpr.set r.toNat v r.isLt }

/-- `pc <- t` (R10). -/
def goto (s : State) (t : Word) : State := { s with pc := t }

/-- `pc <- pc + 4`, modulo 2^32 (R25, R26). -/
def advance (s : State) : State := goto s (s.pc + 4)

/-- How an instruction with a register result ends: the result into `rd`, then the next instruction (R25). -/
def finish (s : State) (rd : Reg) (v : Word) : Out := .next (advance (writeReg s rd v))

/-- The free word of the coming draw (R11 `draw(32 bits)`). -/
def freshWord (s : State) : Word := Config.freeWord s.draws

/-- The state after one draw. -/
def drawn (s : State) : State := { s with draws := s.draws + 1 }

/-- The exceptions (R401), each with the address it records where it records one (R421). -/
inductive Exc where
  | int
  | pil (va : Word)
  | pis (va : Word)
  | pif (va : Word)
  | pme (va : Word)
  | ppi (va : Word)
  | adef (va : Word)
  | adem (va : Word)
  | ale (va : Word)
  | sys
  | brk
  | ine
  | ipe
  | fpd
  | fpe
  | tlbr (va : Word)
  deriving DecidableEq, Repr

/-- Ecode (R401). -/
def ecodeOf : Exc → BitVec 6
  | .int => 0x0
  | .pil _ => 0x1
  | .pis _ => 0x2
  | .pif _ => 0x3
  | .pme _ => 0x4
  | .ppi _ => 0x7
  | .adef _ => 0x8
  | .adem _ => 0x8
  | .ale _ => 0x9
  | .sys => 0xB
  | .brk => 0xC
  | .ine => 0xD
  | .ipe => 0xE
  | .fpd => 0xF
  | .fpe => 0x12
  | .tlbr _ => ecodeTlbr

/-- EsubCode: 1 for ADEM, 0 for every other exception (R401). -/
def esubcodeOf : Exc → BitVec 9
  | .adem _ => 1
  | _ => 0

/-- The address recorded in BADV, for the nine exceptions that record one (R421). -/
def badAddress : Exc → Option Word
  | .pil va | .pis va | .pif va | .pme va | .ppi va | .adef va | .adem va | .ale va | .tlbr va => some va
  | .int | .sys | .brk | .ine | .ipe | .fpd | .fpe => none

/-- The address whose bits [31:13] TLBEHI.VPPN records, for the six TLB-related exceptions (R421). -/
def tlbAddress : Exc → Option Word
  | .pil va | .pis va | .pif va | .pme va | .ppi va | .tlbr va => some va
  | .adef _ | .adem _ | .ale _ | .int | .sys | .brk | .ine | .ipe | .fpd | .fpe => none

/-- Whether an exception is the TLB refill, which has an entry of its own (R422). -/
def isRefill : Exc → Bool
  | .tlbr _ => true
  | _ => false

/-- The CSRs after exception entry from the instruction at `pc` (R420, R421, R422). -/
def enterCsrs (e : Exc) (pc : Word) (c : Csrs) : Csrs :=
  let crmd := setBits 2 (0#1) (setBits 0 (0#2) c.crmd)
  { c with
    prmd := setBits 2 (bits 2 1 c.crmd) (setBits 0 (bits 0 2 c.crmd) c.prmd)
    crmd := if isRefill e then setBits 4 (0#1) (setBits 3 (1#1) crmd) else crmd
    era := pc
    estat := setBits 22 (esubcodeOf e) (setBits 16 (ecodeOf e) c.estat)
    badv := match badAddress e with | some va => va | none => c.badv
    tlbehi := match tlbAddress e with | some va => setBits 13 (bits 13 19 va) c.tlbehi | none => c.tlbehi }

/-- Where an exception goes: `{TLBRENTRY.PA, 6'b0}` for the TLB refill, `{EENTRY.VA, 6'b0}` for every other (R420, R422,
R423). -/
def handlerOf (e : Exc) (c : Csrs) : Word := if isRefill e then entryOf c.tlbrentry else entryOf c.eentry

/-- Taking an exception: `Enter(E, va)` of R420. Nothing else changes. -/
def enter (e : Exc) (s : State) : State :=
  { s with csr := enterCsrs e s.pc s.csr, pc := handlerOf e s.csr, idle := false }

/-- The CSRs after a return from exception: PLV and IE from PRMD; DA = 0, PG = 1 when the exception was a TLB refill;
KLO cleared (R375). -/
def returnCsrs (c : Csrs) : Csrs :=
  let crmd := setBits 2 (bits 2 1 c.prmd) (setBits 0 (bits 0 2 c.prmd) c.crmd)
  { c with
    crmd := if estatEcode c = ecodeTlbr then setBits 4 (1#1) (setBits 3 (0#1) crmd) else crmd
    llbctl := setBits 2 (0#1) c.llbctl }

/-- Returning from an exception, once ERTN's checks have passed (R375, R430). -/
def exceptionReturn (s : State) : State :=
  { s with
    csr := returnCsrs s.csr
    llbit := if llbctlKlo s.csr then s.llbit else false
    pc := s.csr.era }

/-- The result of an operation inside an instruction: a value, an exception (R11 `raise`), a fault or a refusal. -/
inductive Res (α : Type) where
  | ok (a : α)
  | raise (e : Exc)
  | fault (f : Fault)
  | refuse (r : Refusal)
  deriving DecidableEq, Repr

/-- Go on with the value, or stop as the operation stopped. -/
def Res.andThen {α β : Type} (x : Res α) (k : α → Res β) : Res β :=
  match x with
  | .ok a => k a
  | .raise e => .raise e
  | .fault f => .fault f
  | .refuse r => .refuse r

/-- End an instruction started in state `s` by the result of an operation: go on with the value; or abandon the
instruction and take the exception from `s` (R11 `raise`, R402: precise); or stop. -/
def settle {α : Type} (s : State) (x : Res α) (k : α → Out) : Out :=
  match x with
  | .ok a => k a
  | .raise e => .next (enter e s)
  | .fault f => .fault f
  | .refuse r => .refused r

/-- `Privileged()`: at a privilege level other than PLV0 the instruction raises IPE and does nothing else (R343). -/
def privileged (s : State) (k : Out) : Out :=
  if crmdPlv s.csr ≠ 0 then .next (enter .ipe s) else k

end Sys2Proof.Machine
end

