-- ==== Sys2Proof/Machine/Flags.lean ====
section
/-! DEFINITION. LLbit, the only flag-like state of the architecture: the base integer instructions set no condition
flag (10_state.md R27, R28; 44_atomic_barrier.md R300, R301, R304). A comparison's result is the word 0 or 1 (R215). -/

namespace Sys2Proof.Machine

open Sys2Proof

/-- The word 1 or 0 that a comparison or SC.W writes (R215, R301). -/
def truth (b : Bool) : Word := if b then 1 else 0

/-- LL.W's mark: LLbit 1 and the physical address recorded (R28, R300). -/
def setReservation (s : State) (pa : Nat) : State := { s with llbit := true, lladdr := pa }

/-- LLbit 0 (R304); the recorded address stays. -/
def clearLlbit (s : State) : State := { s with llbit := false }

/-- LLbit after an SC.W: 0 when the parameter `SC_CLEARS_LLBIT` says so (R301, 92 D12). -/
def afterSc (s : State) : State := if s.cfg.scClearsLlbit then clearLlbit s else s

/-- The line a physical address lies in: the block of `LINE_BYTES` bytes (R354). -/
def lineOf (cfg : Config.Params) (pa : Nat) : Nat := pa / 2 ^ cfg.lineOffset

end Sys2Proof.Machine
end

