-- ==== Sys2Proof/Machine/Timer.lean ====
section
/-! DEFINITION. The constant-frequency timer and the Counter (10_state.md R59, R60; 60_exceptions.md R445, R446). -/

namespace Sys2Proof.Machine

open Sys2Proof

/-- What a write of TCFG does to the timer once the fields are stored (R445): load and run, or stop. -/
def loadTimer (s : State) : State :=
  if tcfgEn s.csr then
    { s with timer := { s.timer with count := timerStart s.cfg s.csr, running := true, expired := false } }
  else { s with timer := { s.timer with running := false } }

/-- What a write of 1 to TICLR.TI does: the timer-interrupt latch is cleared (R52). -/
def clearTimerInterrupt (s : State) : State := { s with timer := { s.timer with pending := false } }

/-- One tick of the timer (R445): nothing while it does not run; count down; at zero raise TI and reload or stop. -/
def tick (cfg : Config.Params) (c : Csrs) (t : Timer) : Timer :=
  if t.running then
    let n := if t.count = 0 then 0 else t.count - 1
    if n = 0 then
      if tcfgPeriodic c then { t with count := timerStart cfg c, pending := true }
      else { t with count := 0, running := false, expired := true, pending := true }
    else { t with count := n }
  else t

/-- n ticks. -/
def ticks (cfg : Config.Params) (c : Csrs) : Nat → Timer → Timer
  | 0, t => t
  | n + 1, t => ticks cfg c n (tick cfg c t)

/-- The state after n ticks of the timer. -/
def deliverTicks (n : Nat) (s : State) : State := { s with timer := ticks s.cfg s.csr n s.timer }

/-- The state at a read of the Counter: it has advanced by a free amount since the last read, never past 2^64 (R59, 92
D18: each read draws a value not smaller than the previous one). -/
def counterAdvanced (s : State) : State :=
  let room := 2 ^ 64 - s.counter.toNat
  drawn { s with counter := s.counter + BitVec.ofNat 64 (Config.freeCount s.draws % room) }

end Sys2Proof.Machine
end

