-- ==== Sys2Proof/Machine/Boundary.lean ====
section
/-! DEFINITION. What happens at an instruction boundary before an instruction is fetched, in the order of
60_exceptions.md R450: the environment acts, reset (70_reset_and_hazards.md R460), the refusal of an undefined
translation mode (R125), the IDLE wait (R380), the interrupt (R412). -/

namespace Sys2Proof.Machine

open Sys2Proof

/-- A byte another agent stores (R156): it is in memory, where memory exists, and LLbit is cleared when the byte lies in
the line of the recorded address (R304). The `stale` record does not take it (R354). DESIGN CHOICE, unsafe: every such
agent is taken to be coherent; for a non-coherent DMA master R163 leaves open what this core sees, and its store would
need more than this operation (notes/assumptions/26.md). -/
def otherStore (s : State) (c : Host.Cell) : State :=
  if physExists s.cfg c.1 then
    { s with
      mem := writeByte s.mem c.1 c.2
      llbit := s.llbit && !decide (lineOf s.cfg c.1 = lineOf s.cfg s.lladdr) }
  else s

/-- The environment's act: other agents' stores, a clearing of LLbit, the lines, the ticks of the timer (R450). -/
def applyEvent (e : EnvEvent) (s : State) : State :=
  let t := e.writes.foldl otherStore s
  deliverTicks e.ticks { t with llbit := t.llbit && !e.clearLlbit, hwi := e.hwi, ipi := e.ipi }

/-- What the environment does at this boundary. Where nothing is listed the lines and memory stay as they are and a
running timer ticks a free number of times (R445, 93 U30; notes/assumptions/6.md). -/
def environment (s : State) : State :=
  match s.env with
  | e :: rest => applyEvent e { s with env := rest }
  | [] => if s.timer.running then deliverTicks (Config.freeCount s.draws) (drawn s) else s

/-- Whether reset is asserted at this boundary. -/
def resetAsserted (s : State) : Bool :=
  match s.env with
  | e :: _ => e.reset
  | [] => false

/-- A free page. -/
def freePage (k : Nat) : TlbPage :=
  let w := Config.freeWord k
  { v := bit 0 w, d := bit 1 w, plv := bits 2 2 w, mat := bits 4 2 w, ppn := bits 8 24 w }

/-- A free TLB entry, of the four draws from k: no two fields share a bit of a draw. -/
def freeEntry (k : Nat) : TlbEntry :=
  let w := Config.freeWord k
  { e := Config.freeChoice k, g := bit 0 w, asid := bits 1 10 w, ps := bits 11 6 w,
    vppn := bits 0 19 (Config.freeWord (k + 1)), page0 := freePage (k + 2), page1 := freePage (k + 3) }

/-- The CSRs after a reset: the fields R460 lists at its values, every other implemented field free. -/
def resetCsrs (s : State) : Csrs :=
  let w (i : Nat) : Word := Config.freeWord (s.draws + i)
  { crmd := 0x8, prmd := w 0 &&& 0x7, euen := 0, ecfg := 0, estat := w 1 &&& 0x7FFF0000, era := w 2, badv := w 3,
    eentry := w 4 &&& ~~~lowMask 6, tlbidx := w 5 &&& (lowMask (tlbIdxBits s) ||| 0xBF000000),
    tlbehi := w 6 &&& ~~~lowMask 13,
    tlbelo0 := w 7 &&& (0x7F ||| (lowMask (s.cfg.palen - 4) &&& ~~~lowMask 8)),
    tlbelo1 := w 8 &&& (0x7F ||| (lowMask (s.cfg.palen - 4) &&& ~~~lowMask 8)),
    asid := w 9 &&& 0x3FF, pgdl := w 10 &&& ~~~lowMask 12, pgdh := w 11 &&& ~~~lowMask 12,
    save0 := w 12, save1 := w 13, save2 := w 14, save3 := w 15, tid := w 16,
    tcfg := w 17 &&& lowMask s.cfg.timerBits &&& ~~~lowMask 1, llbctl := 0, tlbrentry := w 18 &&& ~~~lowMask 6,
    dmw0 := w 19 &&& 0xEE000030, dmw1 := w 20 &&& 0xEE000030 }

/-- The general registers after a reset: `x[0]` = 0, the others free. -/
def resetGpr (n : Nat) : Vector Word 32 :=
  Vector.ofFn fun i : Fin 32 => if i = 0 then 0 else Config.freeWord (n + 32 + i.val)

/-- The TLB after a reset: every entry free (software invalidates them, R66). -/
def resetTlb (n : Nat) (tlb : List TlbEntry) : List TlbEntry :=
  tlb.zipIdx.map fun p => freeEntry (n + 160 + 4 * p.2)

/-- The timer after a reset: stopped (TCFG.En = 0), its count and latch free. -/
def resetTimer (n : Nat) (w : Nat) : Timer :=
  { count := Config.freeWord (n + 23) &&& lowMask w, running := false, expired := true,
    pending := Config.freeChoice (n + 1) }

/-- The floating-point state after a reset: free. -/
def resetFloat (n : Nat) : FloatState :=
  { f := Vector.ofFn fun i : Fin 32 => Config.freeWord (n + 64 + i.val) ++ Config.freeWord (n + 96 + i.val),
    fcc := bits 0 8 (Config.freeWord (n + 24)), fcsr0 := Config.freeWord (n + 25) }

/-- The Counter after a reset: free. -/
def resetCounter (n : Nat) : BitVec 64 := Config.freeWord (n + 21) ++ Config.freeWord (n + 22)

/-- `Reset()` (R460) at a boundary: the listed state as R460 says, everything else in the core free (D00: undetermined),
the parameters, the input lines and memory kept. -/
def warmReset (s : State) : State :=
  { s with
    pc := 0x1C000000
    gpr := resetGpr s.draws
    csr := resetCsrs s
    llbit := Config.freeChoice s.draws
    lladdr := Config.freeCount s.draws
    tlb := resetTlb s.draws s.tlb
    counter := resetCounter s.draws
    timer := resetTimer s.draws s.cfg.timerBits
    idle := false
    fp := resetFloat s.draws
    stale := []
    ccDirty := false
    draws := s.draws + 160 + 4 * s.tlb.length }

/-- `(ESTAT.IS & ECFG.LIE) != 0`: the wake condition of IDLE (R380) and the vector of R412. -/
def intVector (s : State) : Bool := estatIs s &&& ecfgLie s.csr != 0

/-- `int_pending` (R412). -/
def intPending (s : State) : Bool := crmdIe s.csr && intVector s

/-- `choose()` (R450): whether an interrupt pending at this boundary is taken, and the state after a draw where the
choice is free. `before` is the state before the environment acted. -/
def interruptChoice (before s : State) : Bool × State :=
  match s.cfg.intLatency with
  | .immediate => (true, s)
  | .any =>
    match before.env with
    | e :: _ => (e.takeInterrupt, s)
    | [] => (Config.freeChoice s.draws, drawn s)

/-- What a boundary leads to: the end of the step, or an instruction that starts in a state. -/
inductive Boundary where
  | done (o : Out)
  | run (s : State)

/-- The boundary's last part, on a state that does not wait: the interrupt is taken, or the instruction starts. -/
def interruptPoint (before s : State) : Boundary :=
  if intPending s then
    let c := interruptChoice before s
    if c.1 then .done (.next (enter .int c.2)) else .run c.2
  else .run s

/-- The boundary, in the order of R450. -/
def boundary (s : State) : Boundary :=
  let t := environment s
  if resetAsserted s then .done (.next (warmReset t))
  else if crmdDa t.csr = crmdPg t.csr then .done (.refused .addressModeUndefined)
  else if t.idle && !intVector t then .done (.next t)
  else interruptPoint s { t with idle := false }

end Sys2Proof.Machine
end

