-- ==== Sys2Proof/Machine/Operands.lean ====
section
/-! DEFINITION. Operand forms: the immediates of 30_encoding.md R174, the effective address (43_load_store.md R290),
shift counts (41_shift.md R256), access widths (20_memory.md R108, R109). -/

namespace Sys2Proof.Machine

open Sys2Proof

/-- si12: sign-extended (R174). -/
def immS12 (i : BitVec 12) : Word := sext i
/-- ui12: zero-extended (R174). -/
def immU12 (i : BitVec 12) : Word := zext i
/-- si20: `{si20, 12'b0}` (R174). -/
def immHi20 (i : BitVec 20) : Word := i ++ (0#12)
/-- si14: `sext_32({si14, 2'b0})` (R174). -/
def immS14 (i : BitVec 14) : Word := sext (i ++ (0#2))
/-- offs16: `sext_32({offs16, 2'b0})` (R174). -/
def offs16 (i : BitVec 16) : Word := sext (i ++ (0#2))
/-- offs26: `sext_32({offs26, 2'b0})` (R174). -/
def offs26 (i : BitVec 26) : Word := sext (i ++ (0#2))
/-- The shift count of a register: its low five bits (R250, R256). -/
def shiftCount (w : Word) : Nat := (bits 0 5 w).toNat

/-- The effective address of a load, a store, PRELD or CACOP: `x[rj] + sext_32(si12)`, modulo 2^32 (R290, R350). -/
def address12 (s : State) (rj : Reg) (i : BitVec 12) : Word := readReg s rj + immS12 i
/-- The effective address of LL.W and SC.W (R300, R301). -/
def address14 (s : State) (rj : Reg) (i : BitVec 14) : Word := readReg s rj + immS14 i

/-- The access widths (R109). -/
inductive Width where
  | byte
  | half
  | word
  deriving DecidableEq, Repr

/-- n, in bytes (R109). -/
def widthBytes : Width → Nat
  | .byte => 1
  | .half => 2
  | .word => 4

/-- Natural alignment: `va[log2(n)-1:0] = 0` (R108, R110). -/
def aligned (w : Width) (va : Word) : Bool := decide (va.toNat % widthBytes w = 0)

/-- The byte in a word's low bits, sign-extended (R280). -/
def sext8 (w : Word) : Word := sext (bits 0 8 w)
/-- The halfword in a word's low bits, sign-extended (R281). -/
def sext16 (w : Word) : Word := sext (bits 0 16 w)

end Sys2Proof.Machine
end

