-- ==== Sys2Proof/Machine/Arith.lean ====
section
/-! DEFINITION. Integer arithmetic, comparison, logic, multiply and divide (40_int_arith.md R210 to R241). None raises an
exception of its own. -/

namespace Sys2Proof.Machine

open Sys2Proof

/-- `signed(v)` (R9, R240). -/
def signed (v : Word) : Int := v.toInt

/-- The 64-bit two's complement product of two signed words, bits [63:32] (R231). -/
def mulHighSigned (a b : Word) : Word := (BitVec.ofInt 64 (signed a * signed b)).extractLsb' 32 32

/-- The 64-bit product of two unsigned words, bits [63:32] (R232). -/
def mulHighUnsigned (a b : Word) : Word := (BitVec.ofNat 64 (a.toNat * b.toNat)).extractLsb' 32 32

/-- The one signed division whose quotient is no 32-bit value (R233, R241). -/
def divOverflows (a b : Word) : Bool := a == 0x80000000 && b == 0xFFFFFFFF

/-- The signed quotient, rounded toward zero, for a divisor that is not 0 (R233). -/
def quotientSigned (cfg : Config.Params) (a b : Word) : Word :=
  if divOverflows a b then cfg.divOverflowQ else BitVec.ofInt 32 ((signed a).tdiv (signed b))

/-- The signed remainder, with the sign of the dividend, for a divisor that is not 0 (R234). -/
def remainderSigned (cfg : Config.Params) (a b : Word) : Word :=
  if divOverflows a b then cfg.divOverflowR
  else BitVec.ofInt 32 (signed a - signed b * (signed a).tdiv (signed b))

/-- The unsigned quotient, for a divisor that is not 0 (R235). -/
def quotientUnsigned (a b : Word) : Word := BitVec.ofNat 32 (a.toNat / b.toNat)

/-- The unsigned remainder, for a divisor that is not 0 (R236). -/
def remainderUnsigned (a b : Word) : Word := BitVec.ofNat 32 (a.toNat % b.toNat)

/-- How a division ends: a free word into `rd` when the divisor is 0, without a trap (R241), else the given value. -/
def finishDivide (s : State) (rd : Reg) (divisor v : Word) : Out :=
  if divisor = 0 then finish (drawn s) rd (freshWord s) else finish s rd v

/-- ADD.W rd, rj, rk (R210). -/
def execAddW (rd rj rk : Reg) (s : State) : Out :=
  finish s rd (readReg s rj + readReg s rk)

/-- SUB.W rd, rj, rk (R211). -/
def execSubW (rd rj rk : Reg) (s : State) : Out :=
  finish s rd (readReg s rj - readReg s rk)

/-- ADDI.W rd, rj, si12 (R212). -/
def execAddiW (rd rj : Reg) (si12 : BitVec 12) (s : State) : Out :=
  finish s rd (readReg s rj + immS12 si12)

/-- LU12I.W rd, si20 (R213). -/
def execLu12iW (rd : Reg) (si20 : BitVec 20) (s : State) : Out :=
  finish s rd (immHi20 si20)

/-- PCADDU12I rd, si20 (R214): `pc` is this instruction's address. -/
def execPcaddu12i (rd : Reg) (si20 : BitVec 20) (s : State) : Out :=
  finish s rd (s.pc + immHi20 si20)

/-- SLT rd, rj, rk (R215). -/
def execSlt (rd rj rk : Reg) (s : State) : Out :=
  finish s rd (truth (decide (signed (readReg s rj) < signed (readReg s rk))))

/-- SLTU rd, rj, rk (R216). -/
def execSltu (rd rj rk : Reg) (s : State) : Out :=
  finish s rd (truth (decide ((readReg s rj).toNat < (readReg s rk).toNat)))

/-- SLTI rd, rj, si12 (R217). -/
def execSlti (rd rj : Reg) (si12 : BitVec 12) (s : State) : Out :=
  finish s rd (truth (decide (signed (readReg s rj) < signed (immS12 si12))))

/-- SLTUI rd, rj, si12 (R218: the immediate is sign-extended, then compared unsigned). -/
def execSltui (rd rj : Reg) (si12 : BitVec 12) (s : State) : Out :=
  finish s rd (truth (decide ((readReg s rj).toNat < (immS12 si12).toNat)))

/-- AND rd, rj, rk (R220). -/
def execAndR (rd rj rk : Reg) (s : State) : Out :=
  finish s rd (readReg s rj &&& readReg s rk)

/-- OR rd, rj, rk (R221). -/
def execOrR (rd rj rk : Reg) (s : State) : Out :=
  finish s rd (readReg s rj ||| readReg s rk)

/-- NOR rd, rj, rk (R222). -/
def execNorR (rd rj rk : Reg) (s : State) : Out :=
  finish s rd (~~~(readReg s rj ||| readReg s rk))

/-- XOR rd, rj, rk (R223). -/
def execXorR (rd rj rk : Reg) (s : State) : Out :=
  finish s rd (readReg s rj ^^^ readReg s rk)

/-- ANDI rd, rj, ui12 (R224). -/
def execAndi (rd rj : Reg) (ui12 : BitVec 12) (s : State) : Out :=
  finish s rd (readReg s rj &&& immU12 ui12)

/-- ORI rd, rj, ui12 (R225). -/
def execOri (rd rj : Reg) (ui12 : BitVec 12) (s : State) : Out :=
  finish s rd (readReg s rj ||| immU12 ui12)

/-- XORI rd, rj, ui12 (R226). -/
def execXori (rd rj : Reg) (ui12 : BitVec 12) (s : State) : Out :=
  finish s rd (readReg s rj ^^^ immU12 ui12)

/-- MUL.W rd, rj, rk (R230). -/
def execMulW (rd rj rk : Reg) (s : State) : Out :=
  finish s rd (readReg s rj * readReg s rk)

/-- MULH.W rd, rj, rk (R231). -/
def execMulhW (rd rj rk : Reg) (s : State) : Out :=
  finish s rd (mulHighSigned (readReg s rj) (readReg s rk))

/-- MULH.WU rd, rj, rk (R232). -/
def execMulhWu (rd rj rk : Reg) (s : State) : Out :=
  finish s rd (mulHighUnsigned (readReg s rj) (readReg s rk))

/-- DIV.W rd, rj, rk (R233, R241). -/
def execDivW (rd rj rk : Reg) (s : State) : Out :=
  finishDivide s rd (readReg s rk) (quotientSigned s.cfg (readReg s rj) (readReg s rk))

/-- MOD.W rd, rj, rk (R234, R241). -/
def execModW (rd rj rk : Reg) (s : State) : Out :=
  finishDivide s rd (readReg s rk) (remainderSigned s.cfg (readReg s rj) (readReg s rk))

/-- DIV.WU rd, rj, rk (R235, R241). -/
def execDivWu (rd rj rk : Reg) (s : State) : Out :=
  finishDivide s rd (readReg s rk) (quotientUnsigned (readReg s rj) (readReg s rk))

/-- MOD.WU rd, rj, rk (R236, R241). -/
def execModWu (rd rj rk : Reg) (s : State) : Out :=
  finishDivide s rd (readReg s rk) (remainderUnsigned (readReg s rj) (readReg s rk))

end Sys2Proof.Machine
end

