-- ==== Sys2Proof/Machine/Translate.lean ====
section
/-! DEFINITION. Address translation and protection (20_memory.md R112, R120 to R129) and the memory access type
(R140 to R142). -/

namespace Sys2Proof.Machine

open Sys2Proof

/-- The kinds of access translation tells apart (R120). -/
inductive Access where
  | fetch
  | load
  | store
  deriving DecidableEq, Repr

/-- SUC, strongly-ordered uncached (R141). -/
def matSuc : BitVec 2 := 0
/-- CC, coherent cached (R141). -/
def matCc : BitVec 2 := 1

/-- Direct address translation mode (R121). -/
def directMode (c : Csrs) : Bool := crmdDa c && !crmdPg c
/-- Mapped address translation mode (R122). -/
def mappedMode (c : Csrs) : Bool := !crmdDa c && crmdPg c

/-- `pa mod 2^PALEN`: a physical address is a PALEN-bit value (R102). -/
def physWidth (cfg : Config.Params) (pa : Nat) : Nat := pa % 2 ^ cfg.palen

/-- `DirectTranslate`: the physical address is the virtual one, PALEN bits of it (R121). -/
def directAddress (cfg : Config.Params) (va : Word) : Nat := physWidth cfg va.toNat

/-- The access type in direct mode: DATF for a fetch, DATM for a load or store (R140). -/
def directMat (c : Csrs) : Access → BitVec 2
  | .fetch => crmdDatf c
  | .load => crmdDatm c
  | .store => crmdDatm c

/-- `DmwHit(w, va)` (R123). -/
def windowHit (c : Csrs) (w va : Word) : Bool :=
  (bits 29 3 va == dmwVseg w) &&
    ((crmdPlv c == 0 && dmwPlv0 w) || (crmdPlv c == 3 && dmwPlv3 w))

/-- `{PSEG, va[28:0]}` (R123). -/
def windowAddress (cfg : Config.Params) (w va : Word) : Nat :=
  physWidth cfg ((dmwPseg w).toNat * 2 ^ 29 + va.toNat % 2 ^ 29)

/-- Whether a page size is one of the two legal ones (R129, 92 D20). -/
def legalPs (cfg : Config.Params) (ps : BitVec 6) : Bool := ps == 12 || ps == cfg.psLarge

/-- Whether an entry is non-empty and of the address space `asid` (R126, R127.1). -/
def inSpace (asid : BitVec 10) (e : TlbEntry) : Bool := e.e && (e.g || e.asid == asid)

/-- Whether the entry's VPPN agrees with `va` above bit PS (R126, R127.1). -/
def vppnMatches (e : TlbEntry) (va : Word) : Bool :=
  (e.vppn ++ (0#13)) >>> (e.ps.toNat + 1) == va >>> (e.ps.toNat + 1)

/-- Whether an entry takes part in lookups of `asid` with an illegal page size: what it matches is not given (R129). -/
def illegalSize (cfg : Config.Params) (asid : BitVec 10) (e : TlbEntry) : Bool :=
  inSpace asid e && !legalPs cfg e.ps

/-- The entries that match, each with its index (R126, R360). -/
def tlbMatches (t : List TlbEntry) (asid : BitVec 10) (va : Word) : List (TlbEntry × Nat) :=
  t.zipIdx.filter fun p => inSpace asid p.1 && vppnMatches p.1 va

/-- The one matching entry with its index, or none; more than one is a fault (R126, R128), a legal entry of the address
space with an illegal page size a refusal (R129). -/
def tlbLookup (s : State) (va : Word) : Res (Option (TlbEntry × Nat)) :=
  if s.tlb.any (illegalSize s.cfg (asidAsid s.csr)) then .refuse .pageSizeIllegal
  else
    match tlbMatches s.tlb (asidAsid s.csr) va with
    | [] => .ok none
    | [p] => .ok (some p)
    | _ :: _ :: _ => .fault .tlbMultipleHit

/-- The even or the odd page of the pair, by `va[PS]` (R127.2). -/
def pageOf (e : TlbEntry) (va : Word) : TlbPage := if bit e.ps.toNat va then e.page1 else e.page0

/-- The exception of an access to a page that is not valid (R126). -/
def pageInvalid (va : Word) : Access → Exc
  | .fetch => .pif va
  | .load => .pil va
  | .store => .pis va

/-- `{PPN[PALEN-13:PS-12], va[PS-1:0]}` (R126, R127.5). -/
def pageAddress (cfg : Config.Params) (ps : Nat) (ppn : BitVec 24) (va : Word) : Nat :=
  physWidth cfg (ppn.toNat / 2 ^ (ps - 12) * 2 ^ ps + va.toNat % 2 ^ ps)

/-- The checks on the page an access found, in the order of R126: valid, privilege, dirty. -/
def pageCheck (s : State) (va : Word) (k : Access) (e : TlbEntry) : Res (Nat × BitVec 2) :=
  let p := pageOf e va
  if !p.v then .raise (pageInvalid va k)
  else if p.plv < crmdPlv s.csr then .raise (.ppi va)
  else if k = .store && !p.d then .raise (.pme va)
  else .ok (pageAddress s.cfg e.ps.toNat p.ppn va, p.mat)

/-- `TlbTranslate(va, k)` (R126). -/
def tlbTranslate (s : State) (va : Word) (k : Access) : Res (Nat × BitVec 2) :=
  (tlbLookup s va).andThen fun hit =>
    match hit with
    | none => .raise (.tlbr va)
    | some p => pageCheck s va k p.1

/-- `Translate(va, k)`: the physical address and the access type; DMW0 before DMW1 before the TLB (R120, R124, R125). -/
def translate (s : State) (va : Word) (k : Access) : Res (Nat × BitVec 2) :=
  if directMode s.csr then .ok (directAddress s.cfg va, directMat s.csr k)
  else if mappedMode s.csr then
    if windowHit s.csr s.csr.dmw0 va then .ok (windowAddress s.cfg s.csr.dmw0 va, dmwMat s.csr.dmw0)
    else if windowHit s.csr s.csr.dmw1 va then .ok (windowAddress s.cfg s.csr.dmw1 va, dmwMat s.csr.dmw1)
    else tlbTranslate s va k
  else .refuse .addressModeUndefined

/-- Whether `CheckUserRange` finds an address error: mapped mode, PLV3, the high half, no window hit (R112). -/
def userRangeError (s : State) (va : Word) : Bool :=
  s.cfg.adeOnPlv3High && mappedMode s.csr && (crmdPlv s.csr == 3) && bit 31 va &&
    !windowHit s.csr s.csr.dmw0 va && !windowHit s.csr s.csr.dmw1 va

/-- The address error of R112: ADEF for a fetch, ADEM for every other access. -/
def addressError (va : Word) : Access → Exc
  | .fetch => .adef va
  | .load => .adem va
  | .store => .adem va

/-- `CheckUserRange` and `Translate`, then the refusal of the reserved access types (R112, R120, R142). -/
def resolve (s : State) (va : Word) (k : Access) : Res (Nat × BitVec 2) :=
  if userRangeError s va then .raise (addressError va k)
  else
    (translate s va k).andThen fun p =>
      if p.2 = matSuc ∨ p.2 = matCc then .ok p else .refuse .accessTypeReserved

end Sys2Proof.Machine
end

