-- ==== Sys2Proof/Machine/Access.lean ====
section
/-! DEFINITION. The access primitives `Load`, `Store` (20_memory.md R110) and the `stale` record that stands for the
caches (R162; 47_privileged.md R354). -/

namespace Sys2Proof.Machine

open Sys2Proof

/-- The flags of a byte; a byte not in the record has none set. -/
def staleAt (s : State) (pa : Nat) : StaleFlags :=
  match lookupKey pa s.stale with
  | some f => f
  | none => { needWb := false, needInv := false, needIbar := false }

/-- Whether one of the n bytes from `pa` has a flag that `test` looks for. -/
def anyStale (s : State) (test : StaleFlags → Bool) (pa : Nat) : Nat → Bool
  | 0 => false
  | n + 1 => test (staleAt s pa) || anyStale s test (pa + 1) n

/-- A store of the n bytes from `pa` enters them (R354): write-back needed when the access type is CC. -/
def markStale (mat : BitVec 2) (st : List (Nat × StaleFlags)) (pa : Nat) : Nat → List (Nat × StaleFlags)
  | 0 => st
  | n + 1 =>
    markStale mat (insertKey pa { needWb := mat == matCc, needInv := true, needIbar := true } st) (pa + 1) n

/-- A record without the bytes whose three flags are all clear (R354). -/
def dropClean (st : List (Nat × StaleFlags)) : List (Nat × StaleFlags) :=
  st.filter fun p => p.2.needWb || p.2.needInv || p.2.needIbar

/-- Hit Writeback of the L1 data cache on the line of `pa`: `need_wb` cleared (R354). -/
def clearNeedWb (cfg : Config.Params) (pa : Nat) (st : List (Nat × StaleFlags)) : List (Nat × StaleFlags) :=
  st.map fun p => if lineOf cfg p.1 = lineOf cfg pa then (p.1, { p.2 with needWb := false }) else p

/-- Hit Invalidate of the L1 instruction cache on the line of `pa`: `need_inv` cleared where nothing waits to be written
back (R354). -/
def clearNeedInv (cfg : Config.Params) (pa : Nat) (st : List (Nat × StaleFlags)) : List (Nat × StaleFlags) :=
  st.map fun p =>
    if lineOf cfg p.1 = lineOf cfg pa ∧ p.2.needWb = false then (p.1, { p.2 with needInv := false }) else p

/-- IBAR: `need_ibar` cleared where nothing waits to be written back, then the clean bytes leave (R354). -/
def clearNeedIbar (st : List (Nat × StaleFlags)) : List (Nat × StaleFlags) :=
  dropClean (st.map fun p => if p.2.needWb = false then (p.1, { p.2 with needIbar := false }) else p)

/-- The checks of a data access before memory is touched, in order: ALE, address range, translation (R110, R291), then
what the model refuses: a reserved access type (R142), no memory there (R114), an uncached access to a byte whose newest
value may be in a data cache (R354). -/
def dataAccess (s : State) (w : Width) (va : Word) (k : Access) : Res (Nat × BitVec 2) :=
  if aligned w va then
    (resolve s va k).andThen fun p =>
      if !physRange s.cfg p.1 (widthBytes w) then .refuse .noPhysicalMemory
      else if p.2 = matSuc ∧ anyStale s StaleFlags.needWb p.1 (widthBytes w) = true then
        .refuse .uncachedAfterCached
      else .ok p
  else .raise (.ale va)

/-- `Load(va, n)`, zero-extended (R110). -/
def load (s : State) (w : Width) (va : Word) : Res Word :=
  (dataAccess s w va .load).andThen fun p => .ok (readLE s.mem p.1 (widthBytes w))

/-- `MemWrite(pa, n, v)` by this core, with the bookkeeping of R354. DESIGN CHOICE, unsafe: the bytes are written whatever
the platform has there, a ROM too (R114, 92 D24; notes/assumptions/19.md). -/
def storeAt (s : State) (pa : Nat) (mat : BitVec 2) (w : Width) (v : Word) : State :=
  { s with
    mem := writeLE s.mem pa (widthBytes w) v
    stale := markStale mat s.stale pa (widthBytes w)
    ccDirty := s.ccDirty || mat == matCc }

/-- `Store(va, n, v)` (R110). -/
def store (s : State) (w : Width) (va v : Word) : Res State :=
  (dataAccess s w va .store).andThen fun p => .ok (storeAt s p.1 p.2 w v)

end Sys2Proof.Machine
end

