-- ==== Sys2Proof/Machine/Atomic.lean ====
section
/-! DEFINITION. Load-linked, store-conditional and the barriers (44_atomic_barrier.md R300 to R312). -/

namespace Sys2Proof.Machine

open Sys2Proof

/-- What LL.W and SC.W may not access: anything but CC memory (R305). -/
def requireCached (p : Nat × BitVec 2) : Res (Nat × BitVec 2) :=
  if p.2 = matCc then .ok p else .refuse .llscNotCached

/-- The access of LL.W or SC.W, checked as a word load or store (R300, R301, R305). -/
def reservedAccess (s : State) (va : Word) (k : Access) : Res (Nat × BitVec 2) :=
  (dataAccess s .word va k).andThen requireCached

/-- LL.W rd, rj, si14 (R300). -/
def execLlW (rd rj : Reg) (si14 : BitVec 14) (s : State) : Out :=
  settle s (reservedAccess s (address14 s rj si14) .load) fun p =>
    finish (setReservation s p.1) rd (readLE s.mem p.1 4)

/-- SC.W that fails: 0 into `rd`, no store (R301). -/
def scFail (s : State) (rd : Reg) : Out := finish (afterSc s) rd (truth false)

/-- SC.W with LLbit 1, its access checked (R301): the store, unless the core compares addresses and they differ
(`SC_ADDR_CHECK`, 93 U14); then 1 into `rd`. -/
def scStore (s : State) (rd : Reg) (p : Nat × BitVec 2) : Out :=
  if s.cfg.scAddrCheck && !decide (p.1 = s.lladdr) then scFail s rd
  else finish (afterSc (storeAt s p.1 p.2 .word (readReg s rd))) rd (truth true)

/-- SC.W rd, rj, si14 (R301): with LLbit 0 no check is made unless `SC_FAIL_CHECKS` says so (92 D41). -/
def execScW (rd rj : Reg) (si14 : BitVec 14) (s : State) : Out :=
  if s.llbit then
    settle s (reservedAccess s (address14 s rj si14) .store) fun p => scStore s rd p
  else if s.cfg.scFailChecks then
    settle s (reservedAccess s (address14 s rj si14) .store) fun _ => scFail s rd
  else scFail s rd

/-- A barrier with this hint: hint 0 always; another as 0, or refused, by the parameter (R310, R311, 92 D6). -/
def barrier (rule : Config.HintRule) (hint : BitVec 15) (k : Out) : Out :=
  if hint ≠ 0 ∧ rule = .refuse then .refused .barrierHint else k

/-- DBAR hint (R310): no effect on values in a model of one core (R156). -/
def execDbar (hint : BitVec 15) (s : State) : Out :=
  barrier s.cfg.dbarHints hint (.next (advance s))

/-- IBAR hint (R311): the `stale` record as R354 says. -/
def execIbar (hint : BitVec 15) (s : State) : Out :=
  barrier s.cfg.ibarHints hint (.next (advance { s with stale := clearNeedIbar s.stale }))

end Sys2Proof.Machine
end

