-- ==== Sys2Proof/Machine/Branch.lean ====
section
/-! DEFINITION. Branches, jumps and calls (42_branch.md R260 to R270). No delay slot; a misaligned target is found by the next
fetch (R261). -/

namespace Sys2Proof.Machine

open Sys2Proof

/-- A conditional branch: to `pc + offset` when taken, else to the next instruction (R260). -/
def branchIf (c : Bool) (i : BitVec 16) (s : State) : Out :=
  .next (if c then goto s (s.pc + offs16 i) else advance s)

/-- BEQ rj, rd, offs16 (R262). -/
def execBeq (rj rd : Reg) (i : BitVec 16) (s : State) : Out :=
  branchIf (readReg s rj == readReg s rd) i s

/-- BNE rj, rd, offs16 (R263). -/
def execBne (rj rd : Reg) (i : BitVec 16) (s : State) : Out :=
  branchIf (readReg s rj != readReg s rd) i s

/-- BLT rj, rd, offs16 (R264). -/
def execBlt (rj rd : Reg) (i : BitVec 16) (s : State) : Out :=
  branchIf (decide ((readReg s rj).toInt < (readReg s rd).toInt)) i s

/-- BGE rj, rd, offs16 (R265). -/
def execBge (rj rd : Reg) (i : BitVec 16) (s : State) : Out :=
  branchIf (decide ((readReg s rd).toInt ≤ (readReg s rj).toInt)) i s

/-- BLTU rj, rd, offs16 (R266). -/
def execBltu (rj rd : Reg) (i : BitVec 16) (s : State) : Out :=
  branchIf (decide ((readReg s rj).toNat < (readReg s rd).toNat)) i s

/-- BGEU rj, rd, offs16 (R267). -/
def execBgeu (rj rd : Reg) (i : BitVec 16) (s : State) : Out :=
  branchIf (decide ((readReg s rd).toNat ≤ (readReg s rj).toNat)) i s

/-- B offs26 (R268). -/
def execB (i : BitVec 26) (s : State) : Out :=
  .next (goto s (s.pc + offs26 i))

/-- BL offs26 (R22, R269): the link into `x[1]`. -/
def execBl (i : BitVec 26) (s : State) : Out :=
  .next (goto (writeReg s 1 (s.pc + 4)) (s.pc + offs26 i))

/-- JIRL rd, rj, offs16 (R270): the target is read before the link is written; it may be misaligned (R261). -/
def execJirl (rd rj : Reg) (i : BitVec 16) (s : State) : Out :=
  .next (goto (writeReg s rd (s.pc + 4)) (readReg s rj + offs16 i))

end Sys2Proof.Machine
end

