-- ==== Sys2Proof/Machine/Cache.lean ====
section
/-! DEFINITION. Cache maintenance (47_privileged.md R350 to R354). The model keeps no cache contents: the operations reduce to
bookkeeping on `stale` and `ccDirty`. -/

namespace Sys2Proof.Machine

open Sys2Proof

/-- `code[4:3]`, the operation (R350). -/
def cacopOp (code : BitVec 5) : BitVec 2 := code.extractLsb' 3 2
/-- `code[2:0]`, the cache (R350). -/
def cacopCache (code : BitVec 5) : BitVec 3 := code.extractLsb' 0 3

/-- Store Tag (R351, R354): on the instruction cache nothing; on a data or mixed cache nothing while no cached store has
happened, and refused after one. -/
def storeTag (cache : BitVec 3) (s : State) : Out :=
  if cache ≠ 0 ∧ s.ccDirty = true then .refused .storeTagMayDiscard else .next (advance s)

/-- The `stale` record after a Hit operation on the line of `pa` (R354): on the L1 instruction cache; on the L1 data cache
when the access type is CC; nothing on L2. -/
def hitStale (cache : BitVec 3) (p : Nat × BitVec 2) (s : State) : List (Nat × StaleFlags) :=
  if cache = 0 then clearNeedInv s.cfg p.1 s.stale
  else if cache = 1 ∧ p.2 = matCc then clearNeedWb s.cfg p.1 s.stale
  else s.stale

/-- Hit Invalidate and Writeback (R350, R351): translated as a load, with no alignment check. -/
def hitOperation (cache : BitVec 3) (va : Word) (s : State) : Out :=
  settle s (resolve s va .load) fun p => .next (advance { s with stale := hitStale cache p s })

/-- CACOP on a cache that exists (R350, R351, R353). Index Invalidate changes no value and clears no flag (R354). -/
def cacopOperate (code : BitVec 5) (va : Word) (s : State) : Out :=
  if cacopOp code = 0 then storeTag (cacopCache code) s
  else if cacopOp code = 1 then .next (advance s)
  else if cacopOp code = 2 then hitOperation (cacopCache code) va s
  else .refused .cacopUndefined

/-- A code the model gives a meaning: one of the three operations, on one of the three caches (R350, R353). -/
def cacopDefined (code : BitVec 5) : Bool := cacopOp code != 3 && cacopCache code < 3

/-- CACOP code, rj, si12 (R350 to R354): every operation but the Hit ones is privileged (R352). -/
def execCacop (code : BitVec 5) (rj : Reg) (i : BitVec 12) (s : State) : Out :=
  let body := if cacopDefined code then cacopOperate code (address12 s rj i) s else .refused .cacopUndefined
  if cacopOp code = 2 then body else privileged s body

end Sys2Proof.Machine
end

