-- ==== Sys2Proof/Machine/Float.lean ====
section
/-! DEFINITION. The 73 floating-point instructions (46_float.md R330 to R332): the specification gives them an encoding
and, with the unit absent or disabled, an exception; with the unit enabled it gives no effect, and the model declines. -/

namespace Sys2Proof.Machine

open Sys2Proof

/-- What every floating-point word does (R330, 92 D2): INE without a unit, FPD with the unit disabled, else a refusal. -/
def floatInstr (s : State) : Out :=
  if !s.cfg.hasFpu then .next (enter .ine s)
  else if !euenFpuen s.csr then .next (enter .fpd s)
  else .refused .floatingPoint

/-- FADD.S (R330). -/
def execFaddS (_ : BitVec 5) (_ : BitVec 5) (_ : BitVec 5) (s : State) : Out := floatInstr s
/-- FADD.D (R330). -/
def execFaddD (_ : BitVec 5) (_ : BitVec 5) (_ : BitVec 5) (s : State) : Out := floatInstr s
/-- FSUB.S (R330). -/
def execFsubS (_ : BitVec 5) (_ : BitVec 5) (_ : BitVec 5) (s : State) : Out := floatInstr s
/-- FSUB.D (R330). -/
def execFsubD (_ : BitVec 5) (_ : BitVec 5) (_ : BitVec 5) (s : State) : Out := floatInstr s
/-- FMUL.S (R330). -/
def execFmulS (_ : BitVec 5) (_ : BitVec 5) (_ : BitVec 5) (s : State) : Out := floatInstr s
/-- FMUL.D (R330). -/
def execFmulD (_ : BitVec 5) (_ : BitVec 5) (_ : BitVec 5) (s : State) : Out := floatInstr s
/-- FDIV.S (R330). -/
def execFdivS (_ : BitVec 5) (_ : BitVec 5) (_ : BitVec 5) (s : State) : Out := floatInstr s
/-- FDIV.D (R330). -/
def execFdivD (_ : BitVec 5) (_ : BitVec 5) (_ : BitVec 5) (s : State) : Out := floatInstr s
/-- FMAX.S (R330). -/
def execFmaxS (_ : BitVec 5) (_ : BitVec 5) (_ : BitVec 5) (s : State) : Out := floatInstr s
/-- FMAX.D (R330). -/
def execFmaxD (_ : BitVec 5) (_ : BitVec 5) (_ : BitVec 5) (s : State) : Out := floatInstr s
/-- FMIN.S (R330). -/
def execFminS (_ : BitVec 5) (_ : BitVec 5) (_ : BitVec 5) (s : State) : Out := floatInstr s
/-- FMIN.D (R330). -/
def execFminD (_ : BitVec 5) (_ : BitVec 5) (_ : BitVec 5) (s : State) : Out := floatInstr s
/-- FMAXA.S (R330). -/
def execFmaxaS (_ : BitVec 5) (_ : BitVec 5) (_ : BitVec 5) (s : State) : Out := floatInstr s
/-- FMAXA.D (R330). -/
def execFmaxaD (_ : BitVec 5) (_ : BitVec 5) (_ : BitVec 5) (s : State) : Out := floatInstr s
/-- FMINA.S (R330). -/
def execFminaS (_ : BitVec 5) (_ : BitVec 5) (_ : BitVec 5) (s : State) : Out := floatInstr s
/-- FMINA.D (R330). -/
def execFminaD (_ : BitVec 5) (_ : BitVec 5) (_ : BitVec 5) (s : State) : Out := floatInstr s
/-- FCOPYSIGN.S (R330). -/
def execFcopysignS (_ : BitVec 5) (_ : BitVec 5) (_ : BitVec 5) (s : State) : Out := floatInstr s
/-- FCOPYSIGN.D (R330). -/
def execFcopysignD (_ : BitVec 5) (_ : BitVec 5) (_ : BitVec 5) (s : State) : Out := floatInstr s
/-- FABS.S (R330). -/
def execFabsS (_ : BitVec 5) (_ : BitVec 5) (s : State) : Out := floatInstr s
/-- FABS.D (R330). -/
def execFabsD (_ : BitVec 5) (_ : BitVec 5) (s : State) : Out := floatInstr s
/-- FNEG.S (R330). -/
def execFnegS (_ : BitVec 5) (_ : BitVec 5) (s : State) : Out := floatInstr s
/-- FNEG.D (R330). -/
def execFnegD (_ : BitVec 5) (_ : BitVec 5) (s : State) : Out := floatInstr s
/-- FCLASS.S (R330). -/
def execFclassS (_ : BitVec 5) (_ : BitVec 5) (s : State) : Out := floatInstr s
/-- FCLASS.D (R330). -/
def execFclassD (_ : BitVec 5) (_ : BitVec 5) (s : State) : Out := floatInstr s
/-- FSQRT.S (R330). -/
def execFsqrtS (_ : BitVec 5) (_ : BitVec 5) (s : State) : Out := floatInstr s
/-- FSQRT.D (R330). -/
def execFsqrtD (_ : BitVec 5) (_ : BitVec 5) (s : State) : Out := floatInstr s
/-- FRECIP.S (R330). -/
def execFrecipS (_ : BitVec 5) (_ : BitVec 5) (s : State) : Out := floatInstr s
/-- FRECIP.D (R330). -/
def execFrecipD (_ : BitVec 5) (_ : BitVec 5) (s : State) : Out := floatInstr s
/-- FRSQRT.S (R330). -/
def execFrsqrtS (_ : BitVec 5) (_ : BitVec 5) (s : State) : Out := floatInstr s
/-- FRSQRT.D (R330). -/
def execFrsqrtD (_ : BitVec 5) (_ : BitVec 5) (s : State) : Out := floatInstr s
/-- FMOV.S (R330). -/
def execFmovS (_ : BitVec 5) (_ : BitVec 5) (s : State) : Out := floatInstr s
/-- FMOV.D (R330). -/
def execFmovD (_ : BitVec 5) (_ : BitVec 5) (s : State) : Out := floatInstr s
/-- MOVGR2FR.W (R330). -/
def execMovgr2frW (_ : BitVec 5) (_ : BitVec 5) (s : State) : Out := floatInstr s
/-- MOVGR2FRH.W (R330). -/
def execMovgr2frhW (_ : BitVec 5) (_ : BitVec 5) (s : State) : Out := floatInstr s
/-- MOVFR2GR.S (R330). -/
def execMovfr2grS (_ : BitVec 5) (_ : BitVec 5) (s : State) : Out := floatInstr s
/-- MOVFRH2GR.S (R330). -/
def execMovfrh2grS (_ : BitVec 5) (_ : BitVec 5) (s : State) : Out := floatInstr s
/-- MOVGR2FCSR (R330). -/
def execMovgr2fcsr (_ : BitVec 5) (_ : BitVec 5) (s : State) : Out := floatInstr s
/-- MOVFCSR2GR (R330). -/
def execMovfcsr2gr (_ : BitVec 5) (_ : BitVec 5) (s : State) : Out := floatInstr s
/-- MOVFR2CF (R330). -/
def execMovfr2cf (_ : BitVec 5) (_ : BitVec 5) (s : State) : Out := floatInstr s
/-- MOVCF2FR (R330). -/
def execMovcf2fr (_ : BitVec 5) (_ : BitVec 5) (s : State) : Out := floatInstr s
/-- MOVGR2CF (R330). -/
def execMovgr2cf (_ : BitVec 5) (_ : BitVec 5) (s : State) : Out := floatInstr s
/-- MOVCF2GR (R330). -/
def execMovcf2gr (_ : BitVec 5) (_ : BitVec 5) (s : State) : Out := floatInstr s
/-- FCVT.S.D (R330). -/
def execFcvtSD (_ : BitVec 5) (_ : BitVec 5) (s : State) : Out := floatInstr s
/-- FCVT.D.S (R330). -/
def execFcvtDS (_ : BitVec 5) (_ : BitVec 5) (s : State) : Out := floatInstr s
/-- FTINTRM.W.S (R330). -/
def execFtintrmWS (_ : BitVec 5) (_ : BitVec 5) (s : State) : Out := floatInstr s
/-- FTINTRM.W.D (R330). -/
def execFtintrmWD (_ : BitVec 5) (_ : BitVec 5) (s : State) : Out := floatInstr s
/-- FTINTRP.W.S (R330). -/
def execFtintrpWS (_ : BitVec 5) (_ : BitVec 5) (s : State) : Out := floatInstr s
/-- FTINTRP.W.D (R330). -/
def execFtintrpWD (_ : BitVec 5) (_ : BitVec 5) (s : State) : Out := floatInstr s
/-- FTINTRZ.W.S (R330). -/
def execFtintrzWS (_ : BitVec 5) (_ : BitVec 5) (s : State) : Out := floatInstr s
/-- FTINTRZ.W.D (R330). -/
def execFtintrzWD (_ : BitVec 5) (_ : BitVec 5) (s : State) : Out := floatInstr s
/-- FTINTRNE.W.S (R330). -/
def execFtintrneWS (_ : BitVec 5) (_ : BitVec 5) (s : State) : Out := floatInstr s
/-- FTINTRNE.W.D (R330). -/
def execFtintrneWD (_ : BitVec 5) (_ : BitVec 5) (s : State) : Out := floatInstr s
/-- FTINT.W.S (R330). -/
def execFtintWS (_ : BitVec 5) (_ : BitVec 5) (s : State) : Out := floatInstr s
/-- FTINT.W.D (R330). -/
def execFtintWD (_ : BitVec 5) (_ : BitVec 5) (s : State) : Out := floatInstr s
/-- FFINT.S.W (R330). -/
def execFfintSW (_ : BitVec 5) (_ : BitVec 5) (s : State) : Out := floatInstr s
/-- FFINT.D.W (R330). -/
def execFfintDW (_ : BitVec 5) (_ : BitVec 5) (s : State) : Out := floatInstr s
/-- FMADD.S (R330). -/
def execFmaddS (_ : BitVec 5) (_ : BitVec 5) (_ : BitVec 5) (_ : BitVec 5) (s : State) : Out := floatInstr s
/-- FMADD.D (R330). -/
def execFmaddD (_ : BitVec 5) (_ : BitVec 5) (_ : BitVec 5) (_ : BitVec 5) (s : State) : Out := floatInstr s
/-- FMSUB.S (R330). -/
def execFmsubS (_ : BitVec 5) (_ : BitVec 5) (_ : BitVec 5) (_ : BitVec 5) (s : State) : Out := floatInstr s
/-- FMSUB.D (R330). -/
def execFmsubD (_ : BitVec 5) (_ : BitVec 5) (_ : BitVec 5) (_ : BitVec 5) (s : State) : Out := floatInstr s
/-- FNMADD.S (R330). -/
def execFnmaddS (_ : BitVec 5) (_ : BitVec 5) (_ : BitVec 5) (_ : BitVec 5) (s : State) : Out := floatInstr s
/-- FNMADD.D (R330). -/
def execFnmaddD (_ : BitVec 5) (_ : BitVec 5) (_ : BitVec 5) (_ : BitVec 5) (s : State) : Out := floatInstr s
/-- FNMSUB.S (R330). -/
def execFnmsubS (_ : BitVec 5) (_ : BitVec 5) (_ : BitVec 5) (_ : BitVec 5) (s : State) : Out := floatInstr s
/-- FNMSUB.D (R330). -/
def execFnmsubD (_ : BitVec 5) (_ : BitVec 5) (_ : BitVec 5) (_ : BitVec 5) (s : State) : Out := floatInstr s
/-- FCMP.cond.S (R330). -/
def execFcmpCondS (_ : BitVec 5) (_ : BitVec 5) (_ : BitVec 5) (_ : BitVec 5) (s : State) : Out := floatInstr s
/-- FCMP.cond.D (R330). -/
def execFcmpCondD (_ : BitVec 5) (_ : BitVec 5) (_ : BitVec 5) (_ : BitVec 5) (s : State) : Out := floatInstr s
/-- FSEL (R330). -/
def execFsel (_ : BitVec 5) (_ : BitVec 5) (_ : BitVec 5) (_ : BitVec 3) (s : State) : Out := floatInstr s
/-- BCEQZ (R330). -/
def execBceqz (_ : BitVec 3) (_ : BitVec 21) (s : State) : Out := floatInstr s
/-- BCNEZ (R330). -/
def execBcnez (_ : BitVec 3) (_ : BitVec 21) (s : State) : Out := floatInstr s
/-- FLD.S (R330). -/
def execFldS (_ : BitVec 5) (_ : BitVec 5) (_ : BitVec 12) (s : State) : Out := floatInstr s
/-- FST.S (R330). -/
def execFstS (_ : BitVec 5) (_ : BitVec 5) (_ : BitVec 12) (s : State) : Out := floatInstr s
/-- FLD.D (R330). -/
def execFldD (_ : BitVec 5) (_ : BitVec 5) (_ : BitVec 12) (s : State) : Out := floatInstr s
/-- FST.D (R330). -/
def execFstD (_ : BitVec 5) (_ : BitVec 5) (_ : BitVec 12) (s : State) : Out := floatInstr s

end Sys2Proof.Machine
end

