-- ==== Sys2Proof/Machine/LoadStore.lean ====
section
/-! DEFINITION. Loads, stores and prefetch (43_load_store.md R280 to R292). -/

namespace Sys2Proof.Machine

open Sys2Proof

/-- A load (R290, R291): the access, then what `f` makes of the zero-extended value into `rd`. -/
def loadInto (w : Width) (f : Word → Word) (rd rj : Reg) (i : BitVec 12) (s : State) : Out :=
  settle s (load s w (address12 s rj i)) fun v => finish s rd (f v)

/-- A store (R290, R291) of the low bytes of `x[rd]`. -/
def storeFrom (w : Width) (rd rj : Reg) (i : BitVec 12) (s : State) : Out :=
  settle s (store s w (address12 s rj i) (readReg s rd)) fun t => .next (advance t)

/-- LD.B rd, rj, si12 (R280). -/
def execLdB (rd rj : Reg) (i : BitVec 12) (s : State) : Out :=
  loadInto .byte sext8 rd rj i s

/-- LD.H rd, rj, si12 (R281). -/
def execLdH (rd rj : Reg) (i : BitVec 12) (s : State) : Out :=
  loadInto .half sext16 rd rj i s

/-- LD.W rd, rj, si12 (R282). -/
def execLdW (rd rj : Reg) (i : BitVec 12) (s : State) : Out :=
  loadInto .word id rd rj i s

/-- LD.BU rd, rj, si12 (R283). -/
def execLdBu (rd rj : Reg) (i : BitVec 12) (s : State) : Out :=
  loadInto .byte id rd rj i s

/-- LD.HU rd, rj, si12 (R284). -/
def execLdHu (rd rj : Reg) (i : BitVec 12) (s : State) : Out :=
  loadInto .half id rd rj i s

/-- ST.B rd, rj, si12 (R285). -/
def execStB (rd rj : Reg) (i : BitVec 12) (s : State) : Out :=
  storeFrom .byte rd rj i s

/-- ST.H rd, rj, si12 (R286). -/
def execStH (rd rj : Reg) (i : BitVec 12) (s : State) : Out :=
  storeFrom .half rd rj i s

/-- ST.W rd, rj, si12 (R287). -/
def execStW (rd rj : Reg) (i : BitVec 12) (s : State) : Out :=
  storeFrom .word rd rj i s

/-- PRELD hint, rj, si12 (R292): no access and no exception for any hint, address or mode; the PC advances. -/
def execPreld (_hint : BitVec 5) (_rj : Reg) (_i : BitVec 12) (s : State) : Out :=
  .next (advance s)

end Sys2Proof.Machine
end

