-- ==== Sys2Proof/Machine/Misc.lean ====
section
/-! DEFINITION. System call, breakpoint and counter reads (45_misc.md R320 to R324). -/

namespace Sys2Proof.Machine

open Sys2Proof

/-- SYSCALL code (R320): the system-call exception, at either privilege level; `code` is not interpreted. -/
def execSyscallI (_code : BitVec 15) (s : State) : Out :=
  .next (enter .sys s)

/-- BREAK code (R321): the breakpoint exception; `code` is not interpreted. -/
def execBreakI (_code : BitVec 15) (s : State) : Out :=
  .next (enter .brk s)

/-- RDCNTVL.W rd (R322): bits [31:0] of the Counter. -/
def execRdcntvlW (rd : Reg) (s : State) : Out :=
  let t := counterAdvanced s
  finish t rd (t.counter.extractLsb' 0 32)

/-- RDCNTVH.W rd (R323): bits [63:32] of the Counter. -/
def execRdcntvhW (rd : Reg) (s : State) : Out :=
  let t := counterAdvanced s
  finish t rd (t.counter.extractLsb' 32 32)

/-- RDCNTID rj (R324): TID into `x[rj]`. -/
def execRdcntid (rj : Reg) (s : State) : Out :=
  finish s rj s.csr.tid

end Sys2Proof.Machine
end

