-- ==== Sys2Proof/Machine/Csr.lean ====
section
/-! DEFINITION. The control and status registers as software reads and writes them: their numbers (10_state.md R31),
the bits a write may change (R30, R32 to R56), `CsrRead` and `CsrWrite` (47_privileged.md R344). -/

namespace Sys2Proof.Machine

open Sys2Proof

/-- The CSRs (R31). -/
inductive CsrName where
  | crmd | prmd | euen | ecfg | estat | era | badv | eentry
  | tlbidx | tlbehi | tlbelo0 | tlbelo1 | asid | pgdl | pgdh | pgd
  | cpuid | save0 | save1 | save2 | save3 | tid | tcfg | tval
  | ticlr | llbctl | tlbrentry | ctag | dmw0 | dmw1
  deriving DecidableEq, Repr

/-- The row of a table of numbers. -/
def lookupCsr (n : BitVec 14) : List (BitVec 14 × CsrName) → Option CsrName
  | [] => none
  | (k, c) :: t => if n = k then some c else lookupCsr n t

/-- The numbers of R31. -/
def csrTable : List (BitVec 14 × CsrName) :=
  [(0x0#14, .crmd), (0x1#14, .prmd), (0x2#14, .euen), (0x4#14, .ecfg), (0x5#14, .estat), (0x6#14, .era),
   (0x7#14, .badv), (0xC#14, .eentry), (0x10#14, .tlbidx), (0x11#14, .tlbehi), (0x12#14, .tlbelo0),
   (0x13#14, .tlbelo1), (0x18#14, .asid), (0x19#14, .pgdl), (0x1A#14, .pgdh), (0x1B#14, .pgd), (0x20#14, .cpuid),
   (0x30#14, .save0), (0x31#14, .save1), (0x32#14, .save2), (0x33#14, .save3), (0x40#14, .tid), (0x41#14, .tcfg),
   (0x42#14, .tval), (0x44#14, .ticlr), (0x60#14, .llbctl), (0x88#14, .tlbrentry), (0x98#14, .ctag),
   (0x180#14, .dmw0), (0x181#14, .dmw1)]

/-- The CSR with a number, or none (R57). -/
def csrOf (n : BitVec 14) : Option CsrName := lookupCsr n csrTable

/-- The bits of class RW, the ones a write stores (R30, R32 to R56). -/
def rwMask (s : State) : CsrName → Word
  | .crmd => 0x1FF
  | .prmd => 0x7
  | .euen => 0x1
  | .ecfg => 0x1BFF
  | .estat => 0x3
  | .era | .badv | .save0 | .save1 | .save2 | .save3 | .tid => 0xFFFFFFFF
  | .eentry | .tlbrentry => ~~~lowMask 6
  | .tlbidx => lowMask (tlbIdxBits s) ||| 0xBF000000
  | .tlbehi => ~~~lowMask 13
  | .tlbelo0 | .tlbelo1 => 0x7F ||| (lowMask (s.cfg.palen - 4) &&& ~~~lowMask 8)
  | .asid => 0x3FF
  | .pgdl | .pgdh => ~~~lowMask 12
  | .tcfg => lowMask s.cfg.timerBits
  | .llbctl => 0x4
  | .dmw0 | .dmw1 => 0xEE000039
  | .pgd | .cpuid | .tval | .ticlr | .ctag => 0

/-- The stored part of a CSR; 0 for one that stores nothing. -/
def stored (c : Csrs) : CsrName → Word
  | .crmd => c.crmd
  | .prmd => c.prmd
  | .euen => c.euen
  | .ecfg => c.ecfg
  | .estat => c.estat
  | .era => c.era
  | .badv => c.badv
  | .eentry => c.eentry
  | .tlbidx => c.tlbidx
  | .tlbehi => c.tlbehi
  | .tlbelo0 => c.tlbelo0
  | .tlbelo1 => c.tlbelo1
  | .asid => c.asid
  | .pgdl => c.pgdl
  | .pgdh => c.pgdh
  | .save0 => c.save0
  | .save1 => c.save1
  | .save2 => c.save2
  | .save3 => c.save3
  | .tid => c.tid
  | .tcfg => c.tcfg
  | .llbctl => c.llbctl
  | .tlbrentry => c.tlbrentry
  | .dmw0 => c.dmw0
  | .dmw1 => c.dmw1
  | .pgd | .cpuid | .tval | .ticlr | .ctag => 0

/-- The CSRs with the stored part of one of them replaced. -/
def setStored (c : Csrs) (n : CsrName) (w : Word) : Csrs :=
  match n with
  | .crmd => { c with crmd := w }
  | .prmd => { c with prmd := w }
  | .euen => { c with euen := w }
  | .ecfg => { c with ecfg := w }
  | .estat => { c with estat := w }
  | .era => { c with era := w }
  | .badv => { c with badv := w }
  | .eentry => { c with eentry := w }
  | .tlbidx => { c with tlbidx := w }
  | .tlbehi => { c with tlbehi := w }
  | .tlbelo0 => { c with tlbelo0 := w }
  | .tlbelo1 => { c with tlbelo1 := w }
  | .asid => { c with asid := w }
  | .pgdl => { c with pgdl := w }
  | .pgdh => { c with pgdh := w }
  | .save0 => { c with save0 := w }
  | .save1 => { c with save1 := w }
  | .save2 => { c with save2 := w }
  | .save3 => { c with save3 := w }
  | .tid => { c with tid := w }
  | .tcfg => { c with tcfg := w }
  | .llbctl => { c with llbctl := w }
  | .tlbrentry => { c with tlbrentry := w }
  | .dmw0 => { c with dmw0 := w }
  | .dmw1 => { c with dmw1 := w }
  | .pgd | .cpuid | .tval | .ticlr | .ctag => c

/-- Bits of a CSR whose value at a read is a free value: CTAG (R55), and TVAL once a one-shot count has expired (R445). -/
def readsFree (s : State) : CsrName → Bool
  | .ctag => true
  | .tval => s.timer.expired
  | _ => false

/-- What a CSR reads as, when that is not a free value: the stored RW bits, the fields hardware supplies, and 0 in every
R0 and W1 field (R30, R344). -/
def csrValue (s : State) : CsrName → Word
  | .estat => (s.csr.estat &&& 0x7FFF0003) ||| place 0 (estatIs s)
  | .asid => (s.csr.asid &&& 0x3FF) ||| 0x000A0000
  | .pgd => (if bit 31 s.csr.badv then s.csr.pgdh else s.csr.pgdl) &&& ~~~lowMask 12
  | .cpuid => zext s.cfg.coreId
  | .tval => s.timer.count &&& lowMask s.cfg.timerBits
  | .llbctl => (s.csr.llbctl &&& 0x4) ||| truth s.llbit
  | n => stored s.csr n &&& rwMask s n

/-- The free value a CSR reads as: of TVAL only the bits of TimeVal are free (R51, R55). -/
def csrFreeValue (s : State) : CsrName → Word
  | .tval => freshWord s &&& lowMask s.cfg.timerBits
  | _ => freshWord s

/-- `CsrRead(n)` (R344): the value, and the state after the draw where the value is a free one. Reading changes nothing
else (R340). A number that is no CSR's reads as a free word (R57). -/
def csrRead (s : State) (n : BitVec 14) : Word × State :=
  match csrOf n with
  | none => (freshWord s, drawn s)
  | some c => if readsFree s c then (csrFreeValue s c, drawn s) else (csrValue s c, s)

/-- `(old & ~m) | (v & m)` (R344). -/
def mixBits (old v m : Word) : Word := (old &&& ~~~m) ||| (v &&& m)

/-- What a write does beyond storing bits (the table of R344), on the state in which they are stored; `v` holds the
written bits, 0 where the mask is 0. -/
def csrEffect (n : CsrName) (v : Word) (s : State) : Res State :=
  match n with
  | .crmd => if crmdPlv s.csr = 1 ∨ crmdPlv s.csr = 2 then .refuse .privilegeLevelIllegal else .ok s
  | .tcfg => .ok (loadTimer s)
  | .ticlr => .ok (if bit 0 v then clearTimerInterrupt s else s)
  | .llbctl => .ok (if bit 1 v then clearLlbit s else s)
  | _ => .ok s

/-- The CSRs after the RW bits of `n` under the mask `m` take the bits of `v` (R344). -/
def csrStored (s : State) (n : CsrName) (v m : Word) : Csrs :=
  setStored s.csr n (mixBits (stored s.csr n) v (rwMask s n &&& m))

/-- `CsrWrite(n, v, m)` (R344). A number that is no CSR's has no effect (R57). A mask of 0 writes nothing and triggers
nothing (R342; notes/assumptions/16.md). -/
def csrWrite (s : State) (n : BitVec 14) (v m : Word) : Res State :=
  match csrOf n with
  | none => .ok s
  | some c => if m = 0 then .ok s else csrEffect c (v &&& m) { s with csr := csrStored s c v m }

end Sys2Proof.Machine
end

