-- ==== Sys2Proof/Machine/Privileged.lean ====
section
/-! DEFINITION. CSR access, exception return and idle (47_privileged.md R340 to R344, R375, R380). -/

namespace Sys2Proof.Machine

open Sys2Proof

/-- CSRRD rd, csr_num (R340). -/
def execCsrrd (rd : Reg) (num : BitVec 14) (s : State) : Out :=
  privileged s (finish (csrRead s num).2 rd (csrRead s num).1)

/-- The swap of CSRWR and CSRXCHG (R341, R342): read the whole old value, write `x[rd]` under the mask, then the old
value into `rd`. -/
def csrSwap (rd : Reg) (num : BitVec 14) (m : Word) (s : State) : Out :=
  settle s (csrWrite (csrRead s num).2 num (readReg s rd) m) fun t => finish t rd (csrRead s num).1

/-- CSRWR rd, csr_num (R341). -/
def execCsrwr (rd : Reg) (num : BitVec 14) (s : State) : Out :=
  privileged s (csrSwap rd num (BitVec.allOnes 32) s)

/-- CSRXCHG rd, rj, csr_num (R342): the mask is `x[rj]`. -/
def execCsrxchg (rd rj : Reg) (num : BitVec 14) (s : State) : Out :=
  privileged s (csrSwap rd num (readReg s rj) s)

/-- ERTN (R375): a return to privilege level 1 or 2 is refused (93 U12). -/
def execErtn (s : State) : Out :=
  privileged s
    (if prmdPplv s.csr = 1 ∨ prmdPplv s.csr = 2 then .refused .privilegeLevelIllegal
     else .next (exceptionReturn s))

/-- IDLE level (R380): the PC advances and the core waits; `level` is not interpreted. -/
def execIdle (_level : BitVec 15) (s : State) : Out :=
  privileged s (.next { advance s with idle := true })

end Sys2Proof.Machine
end

