-- ==== Sys2Proof/Machine/Shift.lean ====
section
/-! DEFINITION. Shifts (41_shift.md R250 to R256). The count of a register shift is its low five bits. -/

namespace Sys2Proof.Machine

open Sys2Proof

/-- SLL.W rd, rj, rk (R250). -/
def execSllW (rd rj rk : Reg) (s : State) : Out :=
  finish s rd (readReg s rj <<< shiftCount (readReg s rk))

/-- SRL.W rd, rj, rk (R251). -/
def execSrlW (rd rj rk : Reg) (s : State) : Out :=
  finish s rd (readReg s rj >>> shiftCount (readReg s rk))

/-- SRA.W rd, rj, rk (R252). -/
def execSraW (rd rj rk : Reg) (s : State) : Out :=
  finish s rd ((readReg s rj).sshiftRight (shiftCount (readReg s rk)))

/-- SLLI.W rd, rj, ui5 (R253). -/
def execSlliW (rd rj : Reg) (ui5 : BitVec 5) (s : State) : Out :=
  finish s rd (readReg s rj <<< ui5.toNat)

/-- SRLI.W rd, rj, ui5 (R254). -/
def execSrliW (rd rj : Reg) (ui5 : BitVec 5) (s : State) : Out :=
  finish s rd (readReg s rj >>> ui5.toNat)

/-- SRAI.W rd, rj, ui5 (R255). -/
def execSraiW (rd rj : Reg) (ui5 : BitVec 5) (s : State) : Out :=
  finish s rd ((readReg s rj).sshiftRight ui5.toNat)

end Sys2Proof.Machine
end

