-- ==== Sys2Proof/Machine/TlbInstr.lean ====
section
/-! DEFINITION. The TLB instructions (47_privileged.md R360 to R366). -/

namespace Sys2Proof.Machine

open Sys2Proof

/-- TLBIDX.Index <- i (R360), of the register's n bits. -/
def setIndex (s : State) (i : Nat) (w : Word) : Word :=
  (w &&& ~~~lowMask (tlbIdxBits s)) ||| (BitVec.ofNat 32 i &&& lowMask (tlbIdxBits s))

/-- The search key of TLBSRCH: VPPN, then 13 zeros (R360). -/
def searchKey (c : Csrs) : Word := tlbehiVppn c ++ (0#13)

/-- TLBIDX after a search (R360). -/
def searchResult (s : State) (hit : Option (TlbEntry × Nat)) : Word :=
  match hit with
  | none => setBits 31 (1#1) s.csr.tlbidx
  | some p => setBits 31 (0#1) (setIndex s p.2 s.csr.tlbidx)

/-- TLBSRCH (R360). -/
def execTlbsrch (s : State) : Out :=
  privileged s
    (settle s (tlbLookup s (searchKey s.csr)) fun hit =>
      .next (advance { s with csr := { s.csr with tlbidx := searchResult s hit } }))

/-- `pack`: the fields of one page and G at the positions of R42, the PPN of PALEN-12 bits (R361). -/
def packPage (cfg : Config.Params) (g : Bool) (p : TlbPage) : Word :=
  place 0 (flag p.v) ||| place 1 (flag p.d) ||| place 2 p.plv ||| place 4 p.mat ||| place 6 (flag g) |||
    (place 8 p.ppn &&& lowMask (cfg.palen - 4))

/-- The fields of one TLBELO register (R42). -/
def pageOfCsr (cfg : Config.Params) (w : Word) : TlbPage :=
  { v := bit 0 w, d := bit 1 w, plv := bits 2 2 w, mat := bits 4 2 w, ppn := bits 8 24 (w &&& lowMask (cfg.palen - 4)) }

/-- The CSRs after TLBRD of an entry (R361, 92 D39). -/
def readEntry (cfg : Config.Params) (e : TlbEntry) (c : Csrs) : Csrs :=
  if e.e then
    { c with
      tlbehi := setBits 13 e.vppn c.tlbehi
      tlbelo0 := packPage cfg e.g e.page0
      tlbelo1 := packPage cfg e.g e.page1
      tlbidx := setBits 31 (0#1) (setBits 24 e.ps c.tlbidx)
      asid := setBits 0 e.asid c.asid }
  else
    { c with
      tlbehi := 0
      tlbelo0 := 0
      tlbelo1 := 0
      tlbidx := setBits 31 (1#1) (setBits 24 (0#6) c.tlbidx)
      asid := setBits 0 (0#10) c.asid }

/-- TLBRD (R361): an index that is no entry's is refused (93 U9). -/
def execTlbrd (s : State) : Out :=
  privileged s
    (match s.tlb[tlbidxIndex s]? with
     | none => .refused .tlbIndexOutOfRange
     | some e => .next (advance { s with csr := readEntry s.cfg e s.csr }))

/-- `EntryFromCsr()` (R364, 92 D39), before the check of the page size. -/
def entryFromCsr (s : State) : TlbEntry :=
  { e := if estatEcode s.csr = ecodeTlbr then true else !tlbidxNe s.csr
    asid := asidAsid s.csr
    g := bit 6 s.csr.tlbelo0 && bit 6 s.csr.tlbelo1
    ps := tlbidxPs s.csr
    vppn := tlbehiVppn s.csr
    page0 := pageOfCsr s.cfg s.csr.tlbelo0
    page1 := pageOfCsr s.cfg s.csr.tlbelo1 }

/-- Writing entry i from the CSRs (R362 to R364): an entry with E = 1 and an illegal page size is refused. -/
def writeEntry (i : Nat) (s : State) : Res State :=
  if (entryFromCsr s).e && !legalPs s.cfg (entryFromCsr s).ps then .refuse .pageSizeIllegal
  else .ok { s with tlb := s.tlb.set i (entryFromCsr s) }

/-- TLBWR (R362): an index that is no entry's is refused (93 U9). -/
def execTlbwr (s : State) : Out :=
  privileged s
    (if s.tlb.length ≤ tlbidxIndex s then .refused .tlbIndexOutOfRange
     else settle s (writeEntry (tlbidxIndex s) s) fun t => .next (advance t))

/-- TLBFILL (R363): the entry is a free choice among all. -/
def execTlbfill (s : State) : Out :=
  privileged s
    (settle s (writeEntry (Config.freeCount s.draws % s.tlb.length) (drawn s)) fun t => .next (advance t))

/-- Whether an INVTLB op compares addresses (R365). -/
def invtlbUsesVa (op : BitVec 5) : Bool := op == 5 || op == 6

/-- Whether INVTLB op invalidates an entry (the table of R365). -/
def invtlbSelects (op : BitVec 5) (asid : BitVec 10) (va : Word) (e : TlbEntry) : Bool :=
  if op = 0 ∨ op = 1 then true
  else if op = 2 then e.g
  else if op = 3 then !e.g
  else if op = 4 then !e.g && e.asid == asid
  else if op = 5 then !e.g && e.asid == asid && vppnMatches e va
  else if op = 6 then (e.g || e.asid == asid) && vppnMatches e va
  else false

/-- Whether an entry is compared by op 5 or 6 under an illegal page size: what it matches is not given (R129). -/
def invtlbIllegal (cfg : Config.Params) (op : BitVec 5) (asid : BitVec 10) (e : TlbEntry) : Bool :=
  e.e && !legalPs cfg e.ps &&
    ((op == 5 && !e.g && e.asid == asid) || (op == 6 && (e.g || e.asid == asid)))

/-- The TLB after an INVTLB (R365). -/
def invalidated (op : BitVec 5) (asid : BitVec 10) (va : Word) (t : List TlbEntry) : List TlbEntry :=
  t.map fun e => if invtlbSelects op asid va e then { e with e := false } else e

/-- INVTLB op, rj, rk (R365): an op above 6 raises INE at either privilege level (R343, 92 D42); ops 4 to 6 refuse an
ASID register with bits [31:10] not 0 (92 D26); a register the op does not use is ignored. -/
def execInvtlb (op : BitVec 5) (rj rk : Reg) (s : State) : Out :=
  if 6 < op then .next (enter .ine s)
  else
    privileged s
      (if 4 ≤ op ∧ bits 10 22 (readReg s rj) ≠ 0 then .refused .invtlbAsidBits
       else if s.tlb.any (invtlbIllegal s.cfg op (bits 0 10 (readReg s rj))) then .refused .pageSizeIllegal
       else
         .next (advance { s with tlb := invalidated op (bits 0 10 (readReg s rj)) (readReg s rk) s.tlb }))

end Sys2Proof.Machine
end

