-- ==== Sys2Proof/Syntax.lean ====
section
/-! DEFINITION. The instructions of LA32R, one constructor for each row of spec/opcode_table.json (30_encoding.md
R175, 46_float.md R331). A constructor's arguments are the fields of the encoding, each at its encoded width; register
numbers keep the names of the spec (`rd` = inst[4:0], `rj` = inst[9:5], `rk` = inst[14:10]). -/

namespace Sys2Proof

/-- One LA32R instruction. -/
inductive Instr where
  /-- RDCNTID rj (R324) -/
  | rdcntid (rj : Reg)
  /-- RDCNTVL.W rd (R322) -/
  | rdcntvlW (rd : Reg)
  /-- RDCNTVH.W rd (R323) -/
  | rdcntvhW (rd : Reg)
  /-- ADD.W rd, rj, rk (R210) -/
  | addW (rd rj rk : Reg)
  /-- SUB.W rd, rj, rk (R211) -/
  | subW (rd rj rk : Reg)
  /-- SLT rd, rj, rk (R215) -/
  | slt (rd rj rk : Reg)
  /-- SLTU rd, rj, rk (R216) -/
  | sltu (rd rj rk : Reg)
  /-- NOR rd, rj, rk (R222) -/
  | norR (rd rj rk : Reg)
  /-- AND rd, rj, rk (R220) -/
  | andR (rd rj rk : Reg)
  /-- OR rd, rj, rk (R221) -/
  | orR (rd rj rk : Reg)
  /-- XOR rd, rj, rk (R223) -/
  | xorR (rd rj rk : Reg)
  /-- SLL.W rd, rj, rk (R250) -/
  | sllW (rd rj rk : Reg)
  /-- SRL.W rd, rj, rk (R251) -/
  | srlW (rd rj rk : Reg)
  /-- SRA.W rd, rj, rk (R252) -/
  | sraW (rd rj rk : Reg)
  /-- MUL.W rd, rj, rk (R230) -/
  | mulW (rd rj rk : Reg)
  /-- MULH.W rd, rj, rk (R231) -/
  | mulhW (rd rj rk : Reg)
  /-- MULH.WU rd, rj, rk (R232) -/
  | mulhWu (rd rj rk : Reg)
  /-- DIV.W rd, rj, rk (R233) -/
  | divW (rd rj rk : Reg)
  /-- MOD.W rd, rj, rk (R234) -/
  | modW (rd rj rk : Reg)
  /-- DIV.WU rd, rj, rk (R235) -/
  | divWu (rd rj rk : Reg)
  /-- MOD.WU rd, rj, rk (R236) -/
  | modWu (rd rj rk : Reg)
  /-- BREAK code (R321) -/
  | breakI (code : BitVec 15)
  /-- SYSCALL code (R320) -/
  | syscallI (code : BitVec 15)
  /-- SLLI.W rd, rj, ui5 (R253) -/
  | slliW (rd rj : Reg) (ui5 : BitVec 5)
  /-- SRLI.W rd, rj, ui5 (R254) -/
  | srliW (rd rj : Reg) (ui5 : BitVec 5)
  /-- SRAI.W rd, rj, ui5 (R255) -/
  | sraiW (rd rj : Reg) (ui5 : BitVec 5)
  /-- SLTI rd, rj, si12 (R217) -/
  | slti (rd rj : Reg) (si12 : BitVec 12)
  /-- SLTUI rd, rj, si12 (R218) -/
  | sltui (rd rj : Reg) (si12 : BitVec 12)
  /-- ADDI.W rd, rj, si12 (R212) -/
  | addiW (rd rj : Reg) (si12 : BitVec 12)
  /-- ANDI rd, rj, ui12 (R224) -/
  | andi (rd rj : Reg) (ui12 : BitVec 12)
  /-- ORI rd, rj, ui12 (R225) -/
  | ori (rd rj : Reg) (ui12 : BitVec 12)
  /-- XORI rd, rj, ui12 (R226) -/
  | xori (rd rj : Reg) (ui12 : BitVec 12)
  /-- CSRRD rd, num (R340) -/
  | csrrd (rd : Reg) (num : BitVec 14)
  /-- CSRWR rd, num (R341) -/
  | csrwr (rd : Reg) (num : BitVec 14)
  /-- CSRXCHG rd, rj, num (R342) -/
  | csrxchg (rd rj : Reg) (num : BitVec 14)
  /-- CACOP code, rj, si12 (R350) -/
  | cacop (code : BitVec 5) (rj : Reg) (si12 : BitVec 12)
  /-- TLBSRCH (R360) -/
  | tlbsrch
  /-- TLBRD (R361) -/
  | tlbrd
  /-- TLBWR (R362) -/
  | tlbwr
  /-- TLBFILL (R363) -/
  | tlbfill
  /-- ERTN (R375) -/
  | ertn
  /-- IDLE level (R380) -/
  | idle (level : BitVec 15)
  /-- INVTLB op, rj, rk (R365) -/
  | invtlb (op : BitVec 5) (rj rk : Reg)
  /-- LU12I.W rd, si20 (R213) -/
  | lu12iW (rd : Reg) (si20 : BitVec 20)
  /-- PCADDU12I rd, si20 (R214) -/
  | pcaddu12i (rd : Reg) (si20 : BitVec 20)
  /-- LL.W rd, rj, si14 (R300) -/
  | llW (rd rj : Reg) (si14 : BitVec 14)
  /-- SC.W rd, rj, si14 (R301) -/
  | scW (rd rj : Reg) (si14 : BitVec 14)
  /-- LD.B rd, rj, si12 (R280) -/
  | ldB (rd rj : Reg) (si12 : BitVec 12)
  /-- LD.H rd, rj, si12 (R281) -/
  | ldH (rd rj : Reg) (si12 : BitVec 12)
  /-- LD.W rd, rj, si12 (R282) -/
  | ldW (rd rj : Reg) (si12 : BitVec 12)
  /-- ST.B rd, rj, si12 (R285) -/
  | stB (rd rj : Reg) (si12 : BitVec 12)
  /-- ST.H rd, rj, si12 (R286) -/
  | stH (rd rj : Reg) (si12 : BitVec 12)
  /-- ST.W rd, rj, si12 (R287) -/
  | stW (rd rj : Reg) (si12 : BitVec 12)
  /-- LD.BU rd, rj, si12 (R283) -/
  | ldBu (rd rj : Reg) (si12 : BitVec 12)
  /-- LD.HU rd, rj, si12 (R284) -/
  | ldHu (rd rj : Reg) (si12 : BitVec 12)
  /-- PRELD hint, rj, si12 (R292) -/
  | preld (hint : BitVec 5) (rj : Reg) (si12 : BitVec 12)
  /-- DBAR hint (R310) -/
  | dbar (hint : BitVec 15)
  /-- IBAR hint (R311) -/
  | ibar (hint : BitVec 15)
  /-- JIRL rd, rj, offs16 (R270) -/
  | jirl (rd rj : Reg) (offs16 : BitVec 16)
  /-- B offs26 (R268) -/
  | b (offs26 : BitVec 26)
  /-- BL offs26 (R269) -/
  | bl (offs26 : BitVec 26)
  /-- BEQ rj, rd, offs16 (R262) -/
  | beq (rj rd : Reg) (offs16 : BitVec 16)
  /-- BNE rj, rd, offs16 (R263) -/
  | bne (rj rd : Reg) (offs16 : BitVec 16)
  /-- BLT rj, rd, offs16 (R264) -/
  | blt (rj rd : Reg) (offs16 : BitVec 16)
  /-- BGE rj, rd, offs16 (R265) -/
  | bge (rj rd : Reg) (offs16 : BitVec 16)
  /-- BLTU rj, rd, offs16 (R266) -/
  | bltu (rj rd : Reg) (offs16 : BitVec 16)
  /-- BGEU rj, rd, offs16 (R267) -/
  | bgeu (rj rd : Reg) (offs16 : BitVec 16)
  /-- FADD.S fd, fj, fk (R331) -/
  | faddS (fd fj fk : BitVec 5)
  /-- FADD.D fd, fj, fk (R331) -/
  | faddD (fd fj fk : BitVec 5)
  /-- FSUB.S fd, fj, fk (R331) -/
  | fsubS (fd fj fk : BitVec 5)
  /-- FSUB.D fd, fj, fk (R331) -/
  | fsubD (fd fj fk : BitVec 5)
  /-- FMUL.S fd, fj, fk (R331) -/
  | fmulS (fd fj fk : BitVec 5)
  /-- FMUL.D fd, fj, fk (R331) -/
  | fmulD (fd fj fk : BitVec 5)
  /-- FDIV.S fd, fj, fk (R331) -/
  | fdivS (fd fj fk : BitVec 5)
  /-- FDIV.D fd, fj, fk (R331) -/
  | fdivD (fd fj fk : BitVec 5)
  /-- FMAX.S fd, fj, fk (R331) -/
  | fmaxS (fd fj fk : BitVec 5)
  /-- FMAX.D fd, fj, fk (R331) -/
  | fmaxD (fd fj fk : BitVec 5)
  /-- FMIN.S fd, fj, fk (R331) -/
  | fminS (fd fj fk : BitVec 5)
  /-- FMIN.D fd, fj, fk (R331) -/
  | fminD (fd fj fk : BitVec 5)
  /-- FMAXA.S fd, fj, fk (R331) -/
  | fmaxaS (fd fj fk : BitVec 5)
  /-- FMAXA.D fd, fj, fk (R331) -/
  | fmaxaD (fd fj fk : BitVec 5)
  /-- FMINA.S fd, fj, fk (R331) -/
  | fminaS (fd fj fk : BitVec 5)
  /-- FMINA.D fd, fj, fk (R331) -/
  | fminaD (fd fj fk : BitVec 5)
  /-- FCOPYSIGN.S fd, fj, fk (R331) -/
  | fcopysignS (fd fj fk : BitVec 5)
  /-- FCOPYSIGN.D fd, fj, fk (R331) -/
  | fcopysignD (fd fj fk : BitVec 5)
  /-- FABS.S fd, fj (R331) -/
  | fabsS (fd fj : BitVec 5)
  /-- FABS.D fd, fj (R331) -/
  | fabsD (fd fj : BitVec 5)
  /-- FNEG.S fd, fj (R331) -/
  | fnegS (fd fj : BitVec 5)
  /-- FNEG.D fd, fj (R331) -/
  | fnegD (fd fj : BitVec 5)
  /-- FCLASS.S fd, fj (R331) -/
  | fclassS (fd fj : BitVec 5)
  /-- FCLASS.D fd, fj (R331) -/
  | fclassD (fd fj : BitVec 5)
  /-- FSQRT.S fd, fj (R331) -/
  | fsqrtS (fd fj : BitVec 5)
  /-- FSQRT.D fd, fj (R331) -/
  | fsqrtD (fd fj : BitVec 5)
  /-- FRECIP.S fd, fj (R331) -/
  | frecipS (fd fj : BitVec 5)
  /-- FRECIP.D fd, fj (R331) -/
  | frecipD (fd fj : BitVec 5)
  /-- FRSQRT.S fd, fj (R331) -/
  | frsqrtS (fd fj : BitVec 5)
  /-- FRSQRT.D fd, fj (R331) -/
  | frsqrtD (fd fj : BitVec 5)
  /-- FMOV.S fd, fj (R331) -/
  | fmovS (fd fj : BitVec 5)
  /-- FMOV.D fd, fj (R331) -/
  | fmovD (fd fj : BitVec 5)
  /-- MOVGR2FR.W fd, rj (R331) -/
  | movgr2frW (fd : BitVec 5) (rj : Reg)
  /-- MOVGR2FRH.W fd, rj (R331) -/
  | movgr2frhW (fd : BitVec 5) (rj : Reg)
  /-- MOVFR2GR.S rd, fj (R331) -/
  | movfr2grS (rd : Reg) (fj : BitVec 5)
  /-- MOVFRH2GR.S rd, fj (R331) -/
  | movfrh2grS (rd : Reg) (fj : BitVec 5)
  /-- MOVGR2FCSR fcsr, rj (R331) -/
  | movgr2fcsr (fcsr : BitVec 5) (rj : Reg)
  /-- MOVFCSR2GR rd, fcsr (R331) -/
  | movfcsr2gr (rd : Reg) (fcsr : BitVec 5)
  /-- MOVFR2CF cd, fj (R331) -/
  | movfr2cf (cd fj : BitVec 5)
  /-- MOVCF2FR fd, cj (R331) -/
  | movcf2fr (fd cj : BitVec 5)
  /-- MOVGR2CF cd, rj (R331) -/
  | movgr2cf (cd : BitVec 5) (rj : Reg)
  /-- MOVCF2GR rd, cj (R331) -/
  | movcf2gr (rd : Reg) (cj : BitVec 5)
  /-- FCVT.S.D fd, fj (R331) -/
  | fcvtSD (fd fj : BitVec 5)
  /-- FCVT.D.S fd, fj (R331) -/
  | fcvtDS (fd fj : BitVec 5)
  /-- FTINTRM.W.S fd, fj (R331) -/
  | ftintrmWS (fd fj : BitVec 5)
  /-- FTINTRM.W.D fd, fj (R331) -/
  | ftintrmWD (fd fj : BitVec 5)
  /-- FTINTRP.W.S fd, fj (R331) -/
  | ftintrpWS (fd fj : BitVec 5)
  /-- FTINTRP.W.D fd, fj (R331) -/
  | ftintrpWD (fd fj : BitVec 5)
  /-- FTINTRZ.W.S fd, fj (R331) -/
  | ftintrzWS (fd fj : BitVec 5)
  /-- FTINTRZ.W.D fd, fj (R331) -/
  | ftintrzWD (fd fj : BitVec 5)
  /-- FTINTRNE.W.S fd, fj (R331) -/
  | ftintrneWS (fd fj : BitVec 5)
  /-- FTINTRNE.W.D fd, fj (R331) -/
  | ftintrneWD (fd fj : BitVec 5)
  /-- FTINT.W.S fd, fj (R331) -/
  | ftintWS (fd fj : BitVec 5)
  /-- FTINT.W.D fd, fj (R331) -/
  | ftintWD (fd fj : BitVec 5)
  /-- FFINT.S.W fd, fj (R331) -/
  | ffintSW (fd fj : BitVec 5)
  /-- FFINT.D.W fd, fj (R331) -/
  | ffintDW (fd fj : BitVec 5)
  /-- FMADD.S fd, fj, fk, fa (R331) -/
  | fmaddS (fd fj fk fa : BitVec 5)
  /-- FMADD.D fd, fj, fk, fa (R331) -/
  | fmaddD (fd fj fk fa : BitVec 5)
  /-- FMSUB.S fd, fj, fk, fa (R331) -/
  | fmsubS (fd fj fk fa : BitVec 5)
  /-- FMSUB.D fd, fj, fk, fa (R331) -/
  | fmsubD (fd fj fk fa : BitVec 5)
  /-- FNMADD.S fd, fj, fk, fa (R331) -/
  | fnmaddS (fd fj fk fa : BitVec 5)
  /-- FNMADD.D fd, fj, fk, fa (R331) -/
  | fnmaddD (fd fj fk fa : BitVec 5)
  /-- FNMSUB.S fd, fj, fk, fa (R331) -/
  | fnmsubS (fd fj fk fa : BitVec 5)
  /-- FNMSUB.D fd, fj, fk, fa (R331) -/
  | fnmsubD (fd fj fk fa : BitVec 5)
  /-- FCMP.cond.S cond, cd, fj, fk (R331); `cd` is inst[4:0], the flag's number its low three bits (DESIGN CHOICE:
  notes/assumptions/18.md) -/
  | fcmpCondS (cond cd fj fk : BitVec 5)
  /-- FCMP.cond.D cond, cd, fj, fk (R331); `cd` is inst[4:0], the flag's number its low three bits (DESIGN CHOICE:
  notes/assumptions/18.md) -/
  | fcmpCondD (cond cd fj fk : BitVec 5)
  /-- FSEL fd, fj, fk, ca (R331) -/
  | fsel (fd fj fk : BitVec 5) (ca : BitVec 3)
  /-- BCEQZ cj, offs21 (R331) -/
  | bceqz (cj : BitVec 3) (offs21 : BitVec 21)
  /-- BCNEZ cj, offs21 (R331) -/
  | bcnez (cj : BitVec 3) (offs21 : BitVec 21)
  /-- FLD.S fd, rj, si12 (R331) -/
  | fldS (fd : BitVec 5) (rj : Reg) (si12 : BitVec 12)
  /-- FST.S fd, rj, si12 (R331) -/
  | fstS (fd : BitVec 5) (rj : Reg) (si12 : BitVec 12)
  /-- FLD.D fd, rj, si12 (R331) -/
  | fldD (fd : BitVec 5) (rj : Reg) (si12 : BitVec 12)
  /-- FST.D fd, rj, si12 (R331) -/
  | fstD (fd : BitVec 5) (rj : Reg) (si12 : BitVec 12)
  deriving DecidableEq, Repr

/-- The floating-point instruction words of R331: recognised, trapped or refused, never executed (R330). -/
def Instr.isFloat : Instr → Bool
  | .rdcntid _ => false
  | .rdcntvlW _ => false
  | .rdcntvhW _ => false
  | .addW _ _ _ => false
  | .subW _ _ _ => false
  | .slt _ _ _ => false
  | .sltu _ _ _ => false
  | .norR _ _ _ => false
  | .andR _ _ _ => false
  | .orR _ _ _ => false
  | .xorR _ _ _ => false
  | .sllW _ _ _ => false
  | .srlW _ _ _ => false
  | .sraW _ _ _ => false
  | .mulW _ _ _ => false
  | .mulhW _ _ _ => false
  | .mulhWu _ _ _ => false
  | .divW _ _ _ => false
  | .modW _ _ _ => false
  | .divWu _ _ _ => false
  | .modWu _ _ _ => false
  | .breakI _ => false
  | .syscallI _ => false
  | .slliW _ _ _ => false
  | .srliW _ _ _ => false
  | .sraiW _ _ _ => false
  | .slti _ _ _ => false
  | .sltui _ _ _ => false
  | .addiW _ _ _ => false
  | .andi _ _ _ => false
  | .ori _ _ _ => false
  | .xori _ _ _ => false
  | .csrrd _ _ => false
  | .csrwr _ _ => false
  | .csrxchg _ _ _ => false
  | .cacop _ _ _ => false
  | .tlbsrch => false
  | .tlbrd => false
  | .tlbwr => false
  | .tlbfill => false
  | .ertn => false
  | .idle _ => false
  | .invtlb _ _ _ => false
  | .lu12iW _ _ => false
  | .pcaddu12i _ _ => false
  | .llW _ _ _ => false
  | .scW _ _ _ => false
  | .ldB _ _ _ => false
  | .ldH _ _ _ => false
  | .ldW _ _ _ => false
  | .stB _ _ _ => false
  | .stH _ _ _ => false
  | .stW _ _ _ => false
  | .ldBu _ _ _ => false
  | .ldHu _ _ _ => false
  | .preld _ _ _ => false
  | .dbar _ => false
  | .ibar _ => false
  | .jirl _ _ _ => false
  | .b _ => false
  | .bl _ => false
  | .beq _ _ _ => false
  | .bne _ _ _ => false
  | .blt _ _ _ => false
  | .bge _ _ _ => false
  | .bltu _ _ _ => false
  | .bgeu _ _ _ => false
  | .faddS _ _ _ => true
  | .faddD _ _ _ => true
  | .fsubS _ _ _ => true
  | .fsubD _ _ _ => true
  | .fmulS _ _ _ => true
  | .fmulD _ _ _ => true
  | .fdivS _ _ _ => true
  | .fdivD _ _ _ => true
  | .fmaxS _ _ _ => true
  | .fmaxD _ _ _ => true
  | .fminS _ _ _ => true
  | .fminD _ _ _ => true
  | .fmaxaS _ _ _ => true
  | .fmaxaD _ _ _ => true
  | .fminaS _ _ _ => true
  | .fminaD _ _ _ => true
  | .fcopysignS _ _ _ => true
  | .fcopysignD _ _ _ => true
  | .fabsS _ _ => true
  | .fabsD _ _ => true
  | .fnegS _ _ => true
  | .fnegD _ _ => true
  | .fclassS _ _ => true
  | .fclassD _ _ => true
  | .fsqrtS _ _ => true
  | .fsqrtD _ _ => true
  | .frecipS _ _ => true
  | .frecipD _ _ => true
  | .frsqrtS _ _ => true
  | .frsqrtD _ _ => true
  | .fmovS _ _ => true
  | .fmovD _ _ => true
  | .movgr2frW _ _ => true
  | .movgr2frhW _ _ => true
  | .movfr2grS _ _ => true
  | .movfrh2grS _ _ => true
  | .movgr2fcsr _ _ => true
  | .movfcsr2gr _ _ => true
  | .movfr2cf _ _ => true
  | .movcf2fr _ _ => true
  | .movgr2cf _ _ => true
  | .movcf2gr _ _ => true
  | .fcvtSD _ _ => true
  | .fcvtDS _ _ => true
  | .ftintrmWS _ _ => true
  | .ftintrmWD _ _ => true
  | .ftintrpWS _ _ => true
  | .ftintrpWD _ _ => true
  | .ftintrzWS _ _ => true
  | .ftintrzWD _ _ => true
  | .ftintrneWS _ _ => true
  | .ftintrneWD _ _ => true
  | .ftintWS _ _ => true
  | .ftintWD _ _ => true
  | .ffintSW _ _ => true
  | .ffintDW _ _ => true
  | .fmaddS _ _ _ _ => true
  | .fmaddD _ _ _ _ => true
  | .fmsubS _ _ _ _ => true
  | .fmsubD _ _ _ _ => true
  | .fnmaddS _ _ _ _ => true
  | .fnmaddD _ _ _ _ => true
  | .fnmsubS _ _ _ _ => true
  | .fnmsubD _ _ _ _ => true
  | .fcmpCondS _ _ _ _ => true
  | .fcmpCondD _ _ _ _ => true
  | .fsel _ _ _ _ => true
  | .bceqz _ _ => true
  | .bcnez _ _ => true
  | .fldS _ _ _ => true
  | .fstS _ _ _ => true
  | .fldD _ _ _ => true
  | .fstD _ _ _ => true

end Sys2Proof
end

