-- ==== Sys2Proof/Machine/Dispatch.lean ====
section
/-! DEFINITION. The meaning of every instruction: one arm per constructor, each one call of its meaning. -/

namespace Sys2Proof.Machine

open Sys2Proof

/-- Executing one instruction (the last line of `Step`, 60_exceptions.md R450). -/
def exec (i : Instr) (s : State) : Host.Outcome State Fault Refusal :=
  match i with
  | .rdcntid rj => Sys2Proof.Machine.execRdcntid rj s
  | .rdcntvlW rd => Sys2Proof.Machine.execRdcntvlW rd s
  | .rdcntvhW rd => Sys2Proof.Machine.execRdcntvhW rd s
  | .addW rd rj rk => Sys2Proof.Machine.execAddW rd rj rk s
  | .subW rd rj rk => Sys2Proof.Machine.execSubW rd rj rk s
  | .slt rd rj rk => Sys2Proof.Machine.execSlt rd rj rk s
  | .sltu rd rj rk => Sys2Proof.Machine.execSltu rd rj rk s
  | .norR rd rj rk => Sys2Proof.Machine.execNorR rd rj rk s
  | .andR rd rj rk => Sys2Proof.Machine.execAndR rd rj rk s
  | .orR rd rj rk => Sys2Proof.Machine.execOrR rd rj rk s
  | .xorR rd rj rk => Sys2Proof.Machine.execXorR rd rj rk s
  | .sllW rd rj rk => Sys2Proof.Machine.execSllW rd rj rk s
  | .srlW rd rj rk => Sys2Proof.Machine.execSrlW rd rj rk s
  | .sraW rd rj rk => Sys2Proof.Machine.execSraW rd rj rk s
  | .mulW rd rj rk => Sys2Proof.Machine.execMulW rd rj rk s
  | .mulhW rd rj rk => Sys2Proof.Machine.execMulhW rd rj rk s
  | .mulhWu rd rj rk => Sys2Proof.Machine.execMulhWu rd rj rk s
  | .divW rd rj rk => Sys2Proof.Machine.execDivW rd rj rk s
  | .modW rd rj rk => Sys2Proof.Machine.execModW rd rj rk s
  | .divWu rd rj rk => Sys2Proof.Machine.execDivWu rd rj rk s
  | .modWu rd rj rk => Sys2Proof.Machine.execModWu rd rj rk s
  | .breakI code => Sys2Proof.Machine.execBreakI code s
  | .syscallI code => Sys2Proof.Machine.execSyscallI code s
  | .slliW rd rj ui5 => Sys2Proof.Machine.execSlliW rd rj ui5 s
  | .srliW rd rj ui5 => Sys2Proof.Machine.execSrliW rd rj ui5 s
  | .sraiW rd rj ui5 => Sys2Proof.Machine.execSraiW rd rj ui5 s
  | .slti rd rj si12 => Sys2Proof.Machine.execSlti rd rj si12 s
  | .sltui rd rj si12 => Sys2Proof.Machine.execSltui rd rj si12 s
  | .addiW rd rj si12 => Sys2Proof.Machine.execAddiW rd rj si12 s
  | .andi rd rj ui12 => Sys2Proof.Machine.execAndi rd rj ui12 s
  | .ori rd rj ui12 => Sys2Proof.Machine.execOri rd rj ui12 s
  | .xori rd rj ui12 => Sys2Proof.Machine.execXori rd rj ui12 s
  | .csrrd rd num => Sys2Proof.Machine.execCsrrd rd num s
  | .csrwr rd num => Sys2Proof.Machine.execCsrwr rd num s
  | .csrxchg rd rj num => Sys2Proof.Machine.execCsrxchg rd rj num s
  | .cacop code rj si12 => Sys2Proof.Machine.execCacop code rj si12 s
  | .tlbsrch => Sys2Proof.Machine.execTlbsrch s
  | .tlbrd => Sys2Proof.Machine.execTlbrd s
  | .tlbwr => Sys2Proof.Machine.execTlbwr s
  | .tlbfill => Sys2Proof.Machine.execTlbfill s
  | .ertn => Sys2Proof.Machine.execErtn s
  | .idle level => Sys2Proof.Machine.execIdle level s
  | .invtlb op rj rk => Sys2Proof.Machine.execInvtlb op rj rk s
  | .lu12iW rd si20 => Sys2Proof.Machine.execLu12iW rd si20 s
  | .pcaddu12i rd si20 => Sys2Proof.Machine.execPcaddu12i rd si20 s
  | .llW rd rj si14 => Sys2Proof.Machine.execLlW rd rj si14 s
  | .scW rd rj si14 => Sys2Proof.Machine.execScW rd rj si14 s
  | .ldB rd rj si12 => Sys2Proof.Machine.execLdB rd rj si12 s
  | .ldH rd rj si12 => Sys2Proof.Machine.execLdH rd rj si12 s
  | .ldW rd rj si12 => Sys2Proof.Machine.execLdW rd rj si12 s
  | .stB rd rj si12 => Sys2Proof.Machine.execStB rd rj si12 s
  | .stH rd rj si12 => Sys2Proof.Machine.execStH rd rj si12 s
  | .stW rd rj si12 => Sys2Proof.Machine.execStW rd rj si12 s
  | .ldBu rd rj si12 => Sys2Proof.Machine.execLdBu rd rj si12 s
  | .ldHu rd rj si12 => Sys2Proof.Machine.execLdHu rd rj si12 s
  | .preld hint rj si12 => Sys2Proof.Machine.execPreld hint rj si12 s
  | .dbar hint => Sys2Proof.Machine.execDbar hint s
  | .ibar hint => Sys2Proof.Machine.execIbar hint s
  | .jirl rd rj offs16 => Sys2Proof.Machine.execJirl rd rj offs16 s
  | .b offs26 => Sys2Proof.Machine.execB offs26 s
  | .bl offs26 => Sys2Proof.Machine.execBl offs26 s
  | .beq rj rd offs16 => Sys2Proof.Machine.execBeq rj rd offs16 s
  | .bne rj rd offs16 => Sys2Proof.Machine.execBne rj rd offs16 s
  | .blt rj rd offs16 => Sys2Proof.Machine.execBlt rj rd offs16 s
  | .bge rj rd offs16 => Sys2Proof.Machine.execBge rj rd offs16 s
  | .bltu rj rd offs16 => Sys2Proof.Machine.execBltu rj rd offs16 s
  | .bgeu rj rd offs16 => Sys2Proof.Machine.execBgeu rj rd offs16 s
  | .faddS fd fj fk => Sys2Proof.Machine.execFaddS fd fj fk s
  | .faddD fd fj fk => Sys2Proof.Machine.execFaddD fd fj fk s
  | .fsubS fd fj fk => Sys2Proof.Machine.execFsubS fd fj fk s
  | .fsubD fd fj fk => Sys2Proof.Machine.execFsubD fd fj fk s
  | .fmulS fd fj fk => Sys2Proof.Machine.execFmulS fd fj fk s
  | .fmulD fd fj fk => Sys2Proof.Machine.execFmulD fd fj fk s
  | .fdivS fd fj fk => Sys2Proof.Machine.execFdivS fd fj fk s
  | .fdivD fd fj fk => Sys2Proof.Machine.execFdivD fd fj fk s
  | .fmaxS fd fj fk => Sys2Proof.Machine.execFmaxS fd fj fk s
  | .fmaxD fd fj fk => Sys2Proof.Machine.execFmaxD fd fj fk s
  | .fminS fd fj fk => Sys2Proof.Machine.execFminS fd fj fk s
  | .fminD fd fj fk => Sys2Proof.Machine.execFminD fd fj fk s
  | .fmaxaS fd fj fk => Sys2Proof.Machine.execFmaxaS fd fj fk s
  | .fmaxaD fd fj fk => Sys2Proof.Machine.execFmaxaD fd fj fk s
  | .fminaS fd fj fk => Sys2Proof.Machine.execFminaS fd fj fk s
  | .fminaD fd fj fk => Sys2Proof.Machine.execFminaD fd fj fk s
  | .fcopysignS fd fj fk => Sys2Proof.Machine.execFcopysignS fd fj fk s
  | .fcopysignD fd fj fk => Sys2Proof.Machine.execFcopysignD fd fj fk s
  | .fabsS fd fj => Sys2Proof.Machine.execFabsS fd fj s
  | .fabsD fd fj => Sys2Proof.Machine.execFabsD fd fj s
  | .fnegS fd fj => Sys2Proof.Machine.execFnegS fd fj s
  | .fnegD fd fj => Sys2Proof.Machine.execFnegD fd fj s
  | .fclassS fd fj => Sys2Proof.Machine.execFclassS fd fj s
  | .fclassD fd fj => Sys2Proof.Machine.execFclassD fd fj s
  | .fsqrtS fd fj => Sys2Proof.Machine.execFsqrtS fd fj s
  | .fsqrtD fd fj => Sys2Proof.Machine.execFsqrtD fd fj s
  | .frecipS fd fj => Sys2Proof.Machine.execFrecipS fd fj s
  | .frecipD fd fj => Sys2Proof.Machine.execFrecipD fd fj s
  | .frsqrtS fd fj => Sys2Proof.Machine.execFrsqrtS fd fj s
  | .frsqrtD fd fj => Sys2Proof.Machine.execFrsqrtD fd fj s
  | .fmovS fd fj => Sys2Proof.Machine.execFmovS fd fj s
  | .fmovD fd fj => Sys2Proof.Machine.execFmovD fd fj s
  | .movgr2frW fd rj => Sys2Proof.Machine.execMovgr2frW fd rj s
  | .movgr2frhW fd rj => Sys2Proof.Machine.execMovgr2frhW fd rj s
  | .movfr2grS rd fj => Sys2Proof.Machine.execMovfr2grS rd fj s
  | .movfrh2grS rd fj => Sys2Proof.Machine.execMovfrh2grS rd fj s
  | .movgr2fcsr fcsr rj => Sys2Proof.Machine.execMovgr2fcsr fcsr rj s
  | .movfcsr2gr rd fcsr => Sys2Proof.Machine.execMovfcsr2gr rd fcsr s
  | .movfr2cf cd fj => Sys2Proof.Machine.execMovfr2cf cd fj s
  | .movcf2fr fd cj => Sys2Proof.Machine.execMovcf2fr fd cj s
  | .movgr2cf cd rj => Sys2Proof.Machine.execMovgr2cf cd rj s
  | .movcf2gr rd cj => Sys2Proof.Machine.execMovcf2gr rd cj s
  | .fcvtSD fd fj => Sys2Proof.Machine.execFcvtSD fd fj s
  | .fcvtDS fd fj => Sys2Proof.Machine.execFcvtDS fd fj s
  | .ftintrmWS fd fj => Sys2Proof.Machine.execFtintrmWS fd fj s
  | .ftintrmWD fd fj => Sys2Proof.Machine.execFtintrmWD fd fj s
  | .ftintrpWS fd fj => Sys2Proof.Machine.execFtintrpWS fd fj s
  | .ftintrpWD fd fj => Sys2Proof.Machine.execFtintrpWD fd fj s
  | .ftintrzWS fd fj => Sys2Proof.Machine.execFtintrzWS fd fj s
  | .ftintrzWD fd fj => Sys2Proof.Machine.execFtintrzWD fd fj s
  | .ftintrneWS fd fj => Sys2Proof.Machine.execFtintrneWS fd fj s
  | .ftintrneWD fd fj => Sys2Proof.Machine.execFtintrneWD fd fj s
  | .ftintWS fd fj => Sys2Proof.Machine.execFtintWS fd fj s
  | .ftintWD fd fj => Sys2Proof.Machine.execFtintWD fd fj s
  | .ffintSW fd fj => Sys2Proof.Machine.execFfintSW fd fj s
  | .ffintDW fd fj => Sys2Proof.Machine.execFfintDW fd fj s
  | .fmaddS fd fj fk fa => Sys2Proof.Machine.execFmaddS fd fj fk fa s
  | .fmaddD fd fj fk fa => Sys2Proof.Machine.execFmaddD fd fj fk fa s
  | .fmsubS fd fj fk fa => Sys2Proof.Machine.execFmsubS fd fj fk fa s
  | .fmsubD fd fj fk fa => Sys2Proof.Machine.execFmsubD fd fj fk fa s
  | .fnmaddS fd fj fk fa => Sys2Proof.Machine.execFnmaddS fd fj fk fa s
  | .fnmaddD fd fj fk fa => Sys2Proof.Machine.execFnmaddD fd fj fk fa s
  | .fnmsubS fd fj fk fa => Sys2Proof.Machine.execFnmsubS fd fj fk fa s
  | .fnmsubD fd fj fk fa => Sys2Proof.Machine.execFnmsubD fd fj fk fa s
  | .fcmpCondS cond cd fj fk => Sys2Proof.Machine.execFcmpCondS cond cd fj fk s
  | .fcmpCondD cond cd fj fk => Sys2Proof.Machine.execFcmpCondD cond cd fj fk s
  | .fsel fd fj fk ca => Sys2Proof.Machine.execFsel fd fj fk ca s
  | .bceqz cj offs21 => Sys2Proof.Machine.execBceqz cj offs21 s
  | .bcnez cj offs21 => Sys2Proof.Machine.execBcnez cj offs21 s
  | .fldS fd rj si12 => Sys2Proof.Machine.execFldS fd rj si12 s
  | .fstS fd rj si12 => Sys2Proof.Machine.execFstS fd rj si12 s
  | .fldD fd rj si12 => Sys2Proof.Machine.execFldD fd rj si12 s
  | .fstD fd rj si12 => Sys2Proof.Machine.execFstD fd rj si12 s

end Sys2Proof.Machine
end

