-- ==== Sys2Proof/WellFormed.lean ====
section
/-! DEFINITION. Which instructions an encoding can hold: the "extra condition" column of 30_encoding.md R175. -/

namespace Sys2Proof

/-- RDCNTVL.W needs `rd != 0` (with `rd = 0` the word is RDCNTID, R175, R322); CSRXCHG needs `rj` not 0 and not 1
(those words are CSRRD and CSRWR, R342). Every other instruction takes every value of its fields. -/
def Instr.wellFormed : Instr → Bool
  | .rdcntvlW rd => rd != 0
  | .csrxchg _ rj _ => rj != 0 && rj != 1
  | _ => true

end Sys2Proof
end

