-- ==== Sys2Proof/Decode.lean ====
section
/-! DEFINITION. The instruction encoding of 30_encoding.md (R170 to R180) and 46_float.md (R331): the fields of a word,
the decoder (total on every word, rejecting by name) and the encoder. The tables are the match and mask columns of R175
and R331, one table for each length of opcode; a word is looked up by its shortest opcode first. -/

namespace Sys2Proof

/-- Why a word is no instruction. -/
inductive DecodeError where
  /-- no row of R175 or R331 matches: the machine raises INE (R177) -/
  | undefinedWord
  /-- the non-canonical counter-read words of R180: the machine refuses -/
  | nonCanonicalCounter
  /-- fewer than four bytes (R170: every instruction is 32 bits long) -/
  | truncated
  deriving DecidableEq, Repr

/-- What the decoder answers. -/
abbrev Decoded := Except DecodeError Instr

/-- inst[4:0]: `rd`, or the 5-bit constant that stands there (R172, R173). -/
def fieldRd (w : Word) : BitVec 5 := bits 0 5 w
/-- inst[9:5] (R172). -/
def fieldRj (w : Word) : BitVec 5 := bits 5 5 w
/-- inst[14:10]: `rk`, `fk` or `ui5` (R172, R173). -/
def fieldRk (w : Word) : BitVec 5 := bits 10 5 w
/-- inst[19:15]: `fa` or `cond` (R172, R331). -/
def fieldRa (w : Word) : BitVec 5 := bits 15 5 w
/-- inst[17:15]: `ca` of FSEL (R331). -/
def fieldCa (w : Word) : BitVec 3 := bits 15 3 w
/-- inst[7:5]: `cj` of BCEQZ and BCNEZ (R331). -/
def fieldCj (w : Word) : BitVec 3 := bits 5 3 w
/-- inst[21:10] (R172). -/
def fieldI12 (w : Word) : BitVec 12 := bits 10 12 w
/-- inst[23:10]: `si14` or `csr_num` (R172, R173). -/
def fieldI14 (w : Word) : BitVec 14 := bits 10 14 w
/-- inst[14:0] (R173). -/
def fieldI15 (w : Word) : BitVec 15 := bits 0 15 w
/-- inst[25:10] (R172). -/
def fieldI16 (w : Word) : BitVec 16 := bits 10 16 w
/-- inst[24:5] (R173). -/
def fieldI20 (w : Word) : BitVec 20 := bits 5 20 w
/-- offs21 = inst[4:0] then inst[25:10] (R172). -/
def fieldI21 (w : Word) : BitVec 21 := bits 0 5 w ++ bits 10 16 w
/-- offs26 = inst[9:0] then inst[25:10] (R172, R174). -/
def fieldI26 (w : Word) : BitVec 26 := bits 0 10 w ++ bits 10 16 w

/-- How the rest of a word is read once its opcode is known. -/
abbrev Rest := Word → Decoded

/-- The row of a table whose opcode is `op`. -/
def lookupOp {n : Nat} (op : BitVec n) : List (BitVec n × Rest) → Option Rest
  | [] => none
  | (k, r) :: t => if op = k then some r else lookupOp op t

/-- The counter-read words 0x00006000 and 0x00006400 with their register fields (R175, R180, R322 to R324); every other
word with inst[31:15] = 0 is undefined. -/
def decodeCounter (w : Word) : Decoded :=
  if bits 10 22 w = 0x18#22 then
    if fieldRd w = 0 then .ok (.rdcntid (fieldRj w))
    else if fieldRj w = 0 then .ok (.rdcntvlW (fieldRd w))
    else .error .nonCanonicalCounter
  else if bits 10 22 w = 0x19#22 then
    if fieldRj w = 0 then .ok (.rdcntvhW (fieldRd w)) else .error .nonCanonicalCounter
  else .error .undefinedWord

/-- The CSR instructions, told apart by the `rj` field (R175, R340 to R342). -/
def decodeCsr (w : Word) : Decoded :=
  if fieldRj w = 0 then .ok (.csrrd (fieldRd w) (fieldI14 w))
  else if fieldRj w = 1 then .ok (.csrwr (fieldRd w) (fieldI14 w))
  else .ok (.csrxchg (fieldRd w) (fieldRj w) (fieldI14 w))

/-- BCEQZ and BCNEZ, told apart by inst[9:8] (R331). -/
def decodeFloatBranch (w : Word) : Decoded :=
  if bits 8 2 w = 0 then .ok (.bceqz (fieldCj w) (fieldI21 w))
  else if bits 8 2 w = 1 then .ok (.bcnez (fieldCj w) (fieldI21 w))
  else .error .undefinedWord

/-- The rows whose opcode is inst[31:26]: 2RI16 and I26. -/
def table6 : List (BitVec 6 × Rest) := [
  (0x13#6, fun w => .ok (.jirl (fieldRd w) (fieldRj w) (fieldI16 w))),
  (0x14#6, fun w => .ok (.b (fieldI26 w))),
  (0x15#6, fun w => .ok (.bl (fieldI26 w))),
  (0x16#6, fun w => .ok (.beq (fieldRj w) (fieldRd w) (fieldI16 w))),
  (0x17#6, fun w => .ok (.bne (fieldRj w) (fieldRd w) (fieldI16 w))),
  (0x18#6, fun w => .ok (.blt (fieldRj w) (fieldRd w) (fieldI16 w))),
  (0x19#6, fun w => .ok (.bge (fieldRj w) (fieldRd w) (fieldI16 w))),
  (0x1A#6, fun w => .ok (.bltu (fieldRj w) (fieldRd w) (fieldI16 w))),
  (0x1B#6, fun w => .ok (.bgeu (fieldRj w) (fieldRd w) (fieldI16 w))),
  (0x12#6, decodeFloatBranch)]

/-- The rows whose opcode is inst[31:25]: 1RI20. -/
def table7 : List (BitVec 7 × Rest) := [
  (0xA#7, fun w => .ok (.lu12iW (fieldRd w) (fieldI20 w))),
  (0xE#7, fun w => .ok (.pcaddu12i (fieldRd w) (fieldI20 w)))]

/-- The rows whose opcode is inst[31:24]: 2RI14. -/
def table8 : List (BitVec 8 × Rest) := [
  (0x20#8, fun w => .ok (.llW (fieldRd w) (fieldRj w) (fieldI14 w))),
  (0x21#8, fun w => .ok (.scW (fieldRd w) (fieldRj w) (fieldI14 w))),
  (0x4#8, decodeCsr)]

/-- The rows whose opcode is inst[31:22]: 2RI12, CODE5RI12 and the floating-point loads and stores. -/
def table10 : List (BitVec 10 × Rest) := [
  (0x8#10, fun w => .ok (.slti (fieldRd w) (fieldRj w) (fieldI12 w))),
  (0x9#10, fun w => .ok (.sltui (fieldRd w) (fieldRj w) (fieldI12 w))),
  (0xA#10, fun w => .ok (.addiW (fieldRd w) (fieldRj w) (fieldI12 w))),
  (0xD#10, fun w => .ok (.andi (fieldRd w) (fieldRj w) (fieldI12 w))),
  (0xE#10, fun w => .ok (.ori (fieldRd w) (fieldRj w) (fieldI12 w))),
  (0xF#10, fun w => .ok (.xori (fieldRd w) (fieldRj w) (fieldI12 w))),
  (0x18#10, fun w => .ok (.cacop (fieldRd w) (fieldRj w) (fieldI12 w))),
  (0xA0#10, fun w => .ok (.ldB (fieldRd w) (fieldRj w) (fieldI12 w))),
  (0xA1#10, fun w => .ok (.ldH (fieldRd w) (fieldRj w) (fieldI12 w))),
  (0xA2#10, fun w => .ok (.ldW (fieldRd w) (fieldRj w) (fieldI12 w))),
  (0xA4#10, fun w => .ok (.stB (fieldRd w) (fieldRj w) (fieldI12 w))),
  (0xA5#10, fun w => .ok (.stH (fieldRd w) (fieldRj w) (fieldI12 w))),
  (0xA6#10, fun w => .ok (.stW (fieldRd w) (fieldRj w) (fieldI12 w))),
  (0xA8#10, fun w => .ok (.ldBu (fieldRd w) (fieldRj w) (fieldI12 w))),
  (0xA9#10, fun w => .ok (.ldHu (fieldRd w) (fieldRj w) (fieldI12 w))),
  (0xAB#10, fun w => .ok (.preld (fieldRd w) (fieldRj w) (fieldI12 w))),
  (0xAC#10, fun w => .ok (.fldS (fieldRd w) (fieldRj w) (fieldI12 w))),
  (0xAD#10, fun w => .ok (.fstS (fieldRd w) (fieldRj w) (fieldI12 w))),
  (0xAE#10, fun w => .ok (.fldD (fieldRd w) (fieldRj w) (fieldI12 w))),
  (0xAF#10, fun w => .ok (.fstD (fieldRd w) (fieldRj w) (fieldI12 w)))]

/-- The rows whose opcode is inst[31:20]: 4R and FCMP. By the mask of R331 an FCMP word is one whatever inst[4:3] holds;
that its operand `cd` carries those two bits above the flag's number is the model's (DESIGN CHOICE: notes/assumptions/18.md). -/
def table12 : List (BitVec 12 × Rest) := [
  (0x81#12, fun w => .ok (.fmaddS (fieldRd w) (fieldRj w) (fieldRk w) (fieldRa w))),
  (0x82#12, fun w => .ok (.fmaddD (fieldRd w) (fieldRj w) (fieldRk w) (fieldRa w))),
  (0x85#12, fun w => .ok (.fmsubS (fieldRd w) (fieldRj w) (fieldRk w) (fieldRa w))),
  (0x86#12, fun w => .ok (.fmsubD (fieldRd w) (fieldRj w) (fieldRk w) (fieldRa w))),
  (0x89#12, fun w => .ok (.fnmaddS (fieldRd w) (fieldRj w) (fieldRk w) (fieldRa w))),
  (0x8A#12, fun w => .ok (.fnmaddD (fieldRd w) (fieldRj w) (fieldRk w) (fieldRa w))),
  (0x8D#12, fun w => .ok (.fnmsubS (fieldRd w) (fieldRj w) (fieldRk w) (fieldRa w))),
  (0x8E#12, fun w => .ok (.fnmsubD (fieldRd w) (fieldRj w) (fieldRk w) (fieldRa w))),
  (0xC1#12, fun w => .ok (.fcmpCondS (fieldRa w) (fieldRd w) (fieldRj w) (fieldRk w))),
  (0xC2#12, fun w => .ok (.fcmpCondD (fieldRa w) (fieldRd w) (fieldRj w) (fieldRk w)))]

/-- The rows whose opcode is inst[31:18]: FSEL. -/
def table14 : List (BitVec 14 × Rest) := [
  (0x340#14, fun w => .ok (.fsel (fieldRd w) (fieldRj w) (fieldRk w) (fieldCa w)))]

/-- The rows whose opcode is inst[31:15]: 3R, 2RUI5, I15, OP5RR and the floating-point 3R. -/
def table17 : List (BitVec 17 × Rest) := [
  (0x20#17, fun w => .ok (.addW (fieldRd w) (fieldRj w) (fieldRk w))),
  (0x22#17, fun w => .ok (.subW (fieldRd w) (fieldRj w) (fieldRk w))),
  (0x24#17, fun w => .ok (.slt (fieldRd w) (fieldRj w) (fieldRk w))),
  (0x25#17, fun w => .ok (.sltu (fieldRd w) (fieldRj w) (fieldRk w))),
  (0x28#17, fun w => .ok (.norR (fieldRd w) (fieldRj w) (fieldRk w))),
  (0x29#17, fun w => .ok (.andR (fieldRd w) (fieldRj w) (fieldRk w))),
  (0x2A#17, fun w => .ok (.orR (fieldRd w) (fieldRj w) (fieldRk w))),
  (0x2B#17, fun w => .ok (.xorR (fieldRd w) (fieldRj w) (fieldRk w))),
  (0x2E#17, fun w => .ok (.sllW (fieldRd w) (fieldRj w) (fieldRk w))),
  (0x2F#17, fun w => .ok (.srlW (fieldRd w) (fieldRj w) (fieldRk w))),
  (0x30#17, fun w => .ok (.sraW (fieldRd w) (fieldRj w) (fieldRk w))),
  (0x38#17, fun w => .ok (.mulW (fieldRd w) (fieldRj w) (fieldRk w))),
  (0x39#17, fun w => .ok (.mulhW (fieldRd w) (fieldRj w) (fieldRk w))),
  (0x3A#17, fun w => .ok (.mulhWu (fieldRd w) (fieldRj w) (fieldRk w))),
  (0x40#17, fun w => .ok (.divW (fieldRd w) (fieldRj w) (fieldRk w))),
  (0x41#17, fun w => .ok (.modW (fieldRd w) (fieldRj w) (fieldRk w))),
  (0x42#17, fun w => .ok (.divWu (fieldRd w) (fieldRj w) (fieldRk w))),
  (0x43#17, fun w => .ok (.modWu (fieldRd w) (fieldRj w) (fieldRk w))),
  (0x54#17, fun w => .ok (.breakI (fieldI15 w))),
  (0x56#17, fun w => .ok (.syscallI (fieldI15 w))),
  (0x81#17, fun w => .ok (.slliW (fieldRd w) (fieldRj w) (fieldRk w))),
  (0x89#17, fun w => .ok (.srliW (fieldRd w) (fieldRj w) (fieldRk w))),
  (0x91#17, fun w => .ok (.sraiW (fieldRd w) (fieldRj w) (fieldRk w))),
  (0xC91#17, fun w => .ok (.idle (fieldI15 w))),
  (0xC93#17, fun w => .ok (.invtlb (fieldRd w) (fieldRj w) (fieldRk w))),
  (0x70E4#17, fun w => .ok (.dbar (fieldI15 w))),
  (0x70E5#17, fun w => .ok (.ibar (fieldI15 w))),
  (0x201#17, fun w => .ok (.faddS (fieldRd w) (fieldRj w) (fieldRk w))),
  (0x202#17, fun w => .ok (.faddD (fieldRd w) (fieldRj w) (fieldRk w))),
  (0x205#17, fun w => .ok (.fsubS (fieldRd w) (fieldRj w) (fieldRk w))),
  (0x206#17, fun w => .ok (.fsubD (fieldRd w) (fieldRj w) (fieldRk w))),
  (0x209#17, fun w => .ok (.fmulS (fieldRd w) (fieldRj w) (fieldRk w))),
  (0x20A#17, fun w => .ok (.fmulD (fieldRd w) (fieldRj w) (fieldRk w))),
  (0x20D#17, fun w => .ok (.fdivS (fieldRd w) (fieldRj w) (fieldRk w))),
  (0x20E#17, fun w => .ok (.fdivD (fieldRd w) (fieldRj w) (fieldRk w))),
  (0x211#17, fun w => .ok (.fmaxS (fieldRd w) (fieldRj w) (fieldRk w))),
  (0x212#17, fun w => .ok (.fmaxD (fieldRd w) (fieldRj w) (fieldRk w))),
  (0x215#17, fun w => .ok (.fminS (fieldRd w) (fieldRj w) (fieldRk w))),
  (0x216#17, fun w => .ok (.fminD (fieldRd w) (fieldRj w) (fieldRk w))),
  (0x219#17, fun w => .ok (.fmaxaS (fieldRd w) (fieldRj w) (fieldRk w))),
  (0x21A#17, fun w => .ok (.fmaxaD (fieldRd w) (fieldRj w) (fieldRk w))),
  (0x21D#17, fun w => .ok (.fminaS (fieldRd w) (fieldRj w) (fieldRk w))),
  (0x21E#17, fun w => .ok (.fminaD (fieldRd w) (fieldRj w) (fieldRk w))),
  (0x225#17, fun w => .ok (.fcopysignS (fieldRd w) (fieldRj w) (fieldRk w))),
  (0x226#17, fun w => .ok (.fcopysignD (fieldRd w) (fieldRj w) (fieldRk w))),
  (0x0#17, decodeCounter)]

/-- The rows whose opcode is inst[31:10]: the floating-point 2R. -/
def table22 : List (BitVec 22 × Rest) := [
  (0x4501#22, fun w => .ok (.fabsS (fieldRd w) (fieldRj w))),
  (0x4502#22, fun w => .ok (.fabsD (fieldRd w) (fieldRj w))),
  (0x4505#22, fun w => .ok (.fnegS (fieldRd w) (fieldRj w))),
  (0x4506#22, fun w => .ok (.fnegD (fieldRd w) (fieldRj w))),
  (0x450D#22, fun w => .ok (.fclassS (fieldRd w) (fieldRj w))),
  (0x450E#22, fun w => .ok (.fclassD (fieldRd w) (fieldRj w))),
  (0x4511#22, fun w => .ok (.fsqrtS (fieldRd w) (fieldRj w))),
  (0x4512#22, fun w => .ok (.fsqrtD (fieldRd w) (fieldRj w))),
  (0x4515#22, fun w => .ok (.frecipS (fieldRd w) (fieldRj w))),
  (0x4516#22, fun w => .ok (.frecipD (fieldRd w) (fieldRj w))),
  (0x4519#22, fun w => .ok (.frsqrtS (fieldRd w) (fieldRj w))),
  (0x451A#22, fun w => .ok (.frsqrtD (fieldRd w) (fieldRj w))),
  (0x4525#22, fun w => .ok (.fmovS (fieldRd w) (fieldRj w))),
  (0x4526#22, fun w => .ok (.fmovD (fieldRd w) (fieldRj w))),
  (0x4529#22, fun w => .ok (.movgr2frW (fieldRd w) (fieldRj w))),
  (0x452B#22, fun w => .ok (.movgr2frhW (fieldRd w) (fieldRj w))),
  (0x452D#22, fun w => .ok (.movfr2grS (fieldRd w) (fieldRj w))),
  (0x452F#22, fun w => .ok (.movfrh2grS (fieldRd w) (fieldRj w))),
  (0x4530#22, fun w => .ok (.movgr2fcsr (fieldRd w) (fieldRj w))),
  (0x4532#22, fun w => .ok (.movfcsr2gr (fieldRd w) (fieldRj w))),
  (0x4534#22, fun w => .ok (.movfr2cf (fieldRd w) (fieldRj w))),
  (0x4535#22, fun w => .ok (.movcf2fr (fieldRd w) (fieldRj w))),
  (0x4536#22, fun w => .ok (.movgr2cf (fieldRd w) (fieldRj w))),
  (0x4537#22, fun w => .ok (.movcf2gr (fieldRd w) (fieldRj w))),
  (0x4646#22, fun w => .ok (.fcvtSD (fieldRd w) (fieldRj w))),
  (0x4649#22, fun w => .ok (.fcvtDS (fieldRd w) (fieldRj w))),
  (0x4681#22, fun w => .ok (.ftintrmWS (fieldRd w) (fieldRj w))),
  (0x4682#22, fun w => .ok (.ftintrmWD (fieldRd w) (fieldRj w))),
  (0x4691#22, fun w => .ok (.ftintrpWS (fieldRd w) (fieldRj w))),
  (0x4692#22, fun w => .ok (.ftintrpWD (fieldRd w) (fieldRj w))),
  (0x46A1#22, fun w => .ok (.ftintrzWS (fieldRd w) (fieldRj w))),
  (0x46A2#22, fun w => .ok (.ftintrzWD (fieldRd w) (fieldRj w))),
  (0x46B1#22, fun w => .ok (.ftintrneWS (fieldRd w) (fieldRj w))),
  (0x46B2#22, fun w => .ok (.ftintrneWD (fieldRd w) (fieldRj w))),
  (0x46C1#22, fun w => .ok (.ftintWS (fieldRd w) (fieldRj w))),
  (0x46C2#22, fun w => .ok (.ftintWD (fieldRd w) (fieldRj w))),
  (0x4744#22, fun w => .ok (.ffintSW (fieldRd w) (fieldRj w))),
  (0x4748#22, fun w => .ok (.ffintDW (fieldRd w) (fieldRj w)))]

/-- The rows whose opcode is inst[31:0]: FIXED. -/
def table32 : List (BitVec 32 × Rest) := [
  (0x6482800#32, fun _ => .ok .tlbsrch),
  (0x6482C00#32, fun _ => .ok .tlbrd),
  (0x6483000#32, fun _ => .ok .tlbwr),
  (0x6483400#32, fun _ => .ok .tlbfill),
  (0x6483800#32, fun _ => .ok .ertn)]

/-- The instruction a word is, or why it is none (R175, R177, R180). -/
def decode (w : Word) : Decoded :=
  match lookupOp (bits 26 6 w) table6 with
  | some r => r w
  | none =>
  match lookupOp (bits 25 7 w) table7 with
  | some r => r w
  | none =>
  match lookupOp (bits 24 8 w) table8 with
  | some r => r w
  | none =>
  match lookupOp (bits 22 10 w) table10 with
  | some r => r w
  | none =>
  match lookupOp (bits 20 12 w) table12 with
  | some r => r w
  | none =>
  match lookupOp (bits 18 14 w) table14 with
  | some r => r w
  | none =>
  match lookupOp (bits 15 17 w) table17 with
  | some r => r w
  | none =>
  match lookupOp (bits 10 22 w) table22 with
  | some r => r w
  | none =>
  match lookupOp (bits 0 32 w) table32 with
  | some r => r w
  | none =>
  .error .undefinedWord

/-- The decoder on bytes as memory holds them, the first at the lowest address (little-endian, R105). -/
def decodeBytes : List Byte → Decoded
  | b0 :: b1 :: b2 :: b3 :: _ => decode (b3 ++ b2 ++ b1 ++ b0)
  | _ => .error .truncated

/-- The four bytes of a word in memory order (R104, R105). -/
def wordBytes (w : Word) : List Byte :=
  [w.extractLsb' 0 8, w.extractLsb' 8 8, w.extractLsb' 16 8, w.extractLsb' 24 8]

/-- The instruction the decoder reads from an instruction whose low `nbits` bits are `w` and whose other bits are 0. -/
def decodeTableWord (nbits w : Nat) : Option Instr :=
  match decodeBytes (wordBytes (BitVec.ofNat 32 (w % 2 ^ nbits))) with
  | .ok i => some i
  | .error _ => none

/-- 3R, 2RUI5, OP5RR and floating-point 3R: op17, then `rk`, `rj`, `rd` (R172, R173). -/
def enc3R (op : BitVec 17) (rk rj rd : BitVec 5) : Word :=
  place 15 op ||| place 10 rk ||| place 5 rj ||| place 0 rd
/-- I15: op17, then a 15-bit constant (R173). -/
def encI15 (op : BitVec 17) (c : BitVec 15) : Word := place 15 op ||| place 0 c
/-- 2R: op22, then `rj`, `rd` (R172). -/
def enc2R (op : BitVec 22) (rj rd : BitVec 5) : Word := place 10 op ||| place 5 rj ||| place 0 rd
/-- 2RI12 and CODE5RI12: op10, then the immediate, `rj`, `rd` (R172, R173). -/
def enc2RI12 (op : BitVec 10) (i : BitVec 12) (rj rd : BitVec 5) : Word :=
  place 22 op ||| place 10 i ||| place 5 rj ||| place 0 rd
/-- 2RI14 and CSR: op8, then the immediate, `rj`, `rd` (R172, R173). -/
def enc2RI14 (op : BitVec 8) (i : BitVec 14) (rj rd : BitVec 5) : Word :=
  place 24 op ||| place 10 i ||| place 5 rj ||| place 0 rd
/-- 1RI20: op7, then the immediate, `rd` (R173). -/
def enc1RI20 (op : BitVec 7) (i : BitVec 20) (rd : BitVec 5) : Word :=
  place 25 op ||| place 5 i ||| place 0 rd
/-- 2RI16: op6, then the immediate, `rj`, `rd` (R172). -/
def enc2RI16 (op : BitVec 6) (i : BitVec 16) (rj rd : BitVec 5) : Word :=
  place 26 op ||| place 10 i ||| place 5 rj ||| place 0 rd
/-- I26: op6, then the offset's low 16 bits in inst[25:10] and its high 10 bits in inst[9:0] (R172, R174). -/
def encI26 (op : BitVec 6) (i : BitVec 26) : Word :=
  place 26 op ||| place 10 (i.extractLsb' 0 16) ||| place 0 (i.extractLsb' 16 10)
/-- 4R and FCMP: op12, then `fa` or `cond`, `fk`, `fj`, `fd` or `cd` (R172, R331). -/
def enc4R (op : BitVec 12) (ra rk rj rd : BitVec 5) : Word :=
  place 20 op ||| place 15 ra ||| place 10 rk ||| place 5 rj ||| place 0 rd
/-- FSEL: op14, then `ca`, `fk`, `fj`, `fd` (R331). -/
def encFsel (op : BitVec 14) (ca : BitVec 3) (rk rj rd : BitVec 5) : Word :=
  place 18 op ||| place 15 ca ||| place 10 rk ||| place 5 rj ||| place 0 rd
/-- BCEQZ and BCNEZ: op6, the offset split as in 1RI21, inst[9:8], `cj` (R172, R331). -/
def encFloatBranch (op : BitVec 6) (sel : BitVec 2) (cj : BitVec 3) (i : BitVec 21) : Word :=
  place 26 op ||| place 10 (i.extractLsb' 0 16) ||| place 8 sel ||| place 5 cj ||| place 0 (i.extractLsb' 16 5)

/-- The word of an instruction (R175, R331). -/
def encode : Instr → Word
  | .rdcntid rj => enc2R 0x18#22 rj 0
  | .rdcntvlW rd => enc2R 0x18#22 0 rd
  | .rdcntvhW rd => enc2R 0x19#22 0 rd
  | .addW rd rj rk => enc3R 0x20#17 rk rj rd
  | .subW rd rj rk => enc3R 0x22#17 rk rj rd
  | .slt rd rj rk => enc3R 0x24#17 rk rj rd
  | .sltu rd rj rk => enc3R 0x25#17 rk rj rd
  | .norR rd rj rk => enc3R 0x28#17 rk rj rd
  | .andR rd rj rk => enc3R 0x29#17 rk rj rd
  | .orR rd rj rk => enc3R 0x2A#17 rk rj rd
  | .xorR rd rj rk => enc3R 0x2B#17 rk rj rd
  | .sllW rd rj rk => enc3R 0x2E#17 rk rj rd
  | .srlW rd rj rk => enc3R 0x2F#17 rk rj rd
  | .sraW rd rj rk => enc3R 0x30#17 rk rj rd
  | .mulW rd rj rk => enc3R 0x38#17 rk rj rd
  | .mulhW rd rj rk => enc3R 0x39#17 rk rj rd
  | .mulhWu rd rj rk => enc3R 0x3A#17 rk rj rd
  | .divW rd rj rk => enc3R 0x40#17 rk rj rd
  | .modW rd rj rk => enc3R 0x41#17 rk rj rd
  | .divWu rd rj rk => enc3R 0x42#17 rk rj rd
  | .modWu rd rj rk => enc3R 0x43#17 rk rj rd
  | .breakI code => encI15 0x54#17 code
  | .syscallI code => encI15 0x56#17 code
  | .slliW rd rj ui5 => enc3R 0x81#17 ui5 rj rd
  | .srliW rd rj ui5 => enc3R 0x89#17 ui5 rj rd
  | .sraiW rd rj ui5 => enc3R 0x91#17 ui5 rj rd
  | .slti rd rj si12 => enc2RI12 0x8#10 si12 rj rd
  | .sltui rd rj si12 => enc2RI12 0x9#10 si12 rj rd
  | .addiW rd rj si12 => enc2RI12 0xA#10 si12 rj rd
  | .andi rd rj ui12 => enc2RI12 0xD#10 ui12 rj rd
  | .ori rd rj ui12 => enc2RI12 0xE#10 ui12 rj rd
  | .xori rd rj ui12 => enc2RI12 0xF#10 ui12 rj rd
  | .csrrd rd num => enc2RI14 0x4#8 num 0 rd
  | .csrwr rd num => enc2RI14 0x4#8 num 1 rd
  | .csrxchg rd rj num => enc2RI14 0x4#8 num rj rd
  | .cacop code rj si12 => enc2RI12 0x18#10 si12 rj code
  | .tlbsrch => 0x06482800#32
  | .tlbrd => 0x06482C00#32
  | .tlbwr => 0x06483000#32
  | .tlbfill => 0x06483400#32
  | .ertn => 0x06483800#32
  | .idle level => encI15 0xC91#17 level
  | .invtlb op rj rk => enc3R 0xC93#17 rk rj op
  | .lu12iW rd si20 => enc1RI20 0xA#7 si20 rd
  | .pcaddu12i rd si20 => enc1RI20 0xE#7 si20 rd
  | .llW rd rj si14 => enc2RI14 0x20#8 si14 rj rd
  | .scW rd rj si14 => enc2RI14 0x21#8 si14 rj rd
  | .ldB rd rj si12 => enc2RI12 0xA0#10 si12 rj rd
  | .ldH rd rj si12 => enc2RI12 0xA1#10 si12 rj rd
  | .ldW rd rj si12 => enc2RI12 0xA2#10 si12 rj rd
  | .stB rd rj si12 => enc2RI12 0xA4#10 si12 rj rd
  | .stH rd rj si12 => enc2RI12 0xA5#10 si12 rj rd
  | .stW rd rj si12 => enc2RI12 0xA6#10 si12 rj rd
  | .ldBu rd rj si12 => enc2RI12 0xA8#10 si12 rj rd
  | .ldHu rd rj si12 => enc2RI12 0xA9#10 si12 rj rd
  | .preld hint rj si12 => enc2RI12 0xAB#10 si12 rj hint
  | .dbar hint => encI15 0x70E4#17 hint
  | .ibar hint => encI15 0x70E5#17 hint
  | .jirl rd rj offs16 => enc2RI16 0x13#6 offs16 rj rd
  | .b offs26 => encI26 0x14#6 offs26
  | .bl offs26 => encI26 0x15#6 offs26
  | .beq rj rd offs16 => enc2RI16 0x16#6 offs16 rj rd
  | .bne rj rd offs16 => enc2RI16 0x17#6 offs16 rj rd
  | .blt rj rd offs16 => enc2RI16 0x18#6 offs16 rj rd
  | .bge rj rd offs16 => enc2RI16 0x19#6 offs16 rj rd
  | .bltu rj rd offs16 => enc2RI16 0x1A#6 offs16 rj rd
  | .bgeu rj rd offs16 => enc2RI16 0x1B#6 offs16 rj rd
  | .faddS fd fj fk => enc3R 0x201#17 fk fj fd
  | .faddD fd fj fk => enc3R 0x202#17 fk fj fd
  | .fsubS fd fj fk => enc3R 0x205#17 fk fj fd
  | .fsubD fd fj fk => enc3R 0x206#17 fk fj fd
  | .fmulS fd fj fk => enc3R 0x209#17 fk fj fd
  | .fmulD fd fj fk => enc3R 0x20A#17 fk fj fd
  | .fdivS fd fj fk => enc3R 0x20D#17 fk fj fd
  | .fdivD fd fj fk => enc3R 0x20E#17 fk fj fd
  | .fmaxS fd fj fk => enc3R 0x211#17 fk fj fd
  | .fmaxD fd fj fk => enc3R 0x212#17 fk fj fd
  | .fminS fd fj fk => enc3R 0x215#17 fk fj fd
  | .fminD fd fj fk => enc3R 0x216#17 fk fj fd
  | .fmaxaS fd fj fk => enc3R 0x219#17 fk fj fd
  | .fmaxaD fd fj fk => enc3R 0x21A#17 fk fj fd
  | .fminaS fd fj fk => enc3R 0x21D#17 fk fj fd
  | .fminaD fd fj fk => enc3R 0x21E#17 fk fj fd
  | .fcopysignS fd fj fk => enc3R 0x225#17 fk fj fd
  | .fcopysignD fd fj fk => enc3R 0x226#17 fk fj fd
  | .fabsS fd fj => enc2R 0x4501#22 fj fd
  | .fabsD fd fj => enc2R 0x4502#22 fj fd
  | .fnegS fd fj => enc2R 0x4505#22 fj fd
  | .fnegD fd fj => enc2R 0x4506#22 fj fd
  | .fclassS fd fj => enc2R 0x450D#22 fj fd
  | .fclassD fd fj => enc2R 0x450E#22 fj fd
  | .fsqrtS fd fj => enc2R 0x4511#22 fj fd
  | .fsqrtD fd fj => enc2R 0x4512#22 fj fd
  | .frecipS fd fj => enc2R 0x4515#22 fj fd
  | .frecipD fd fj => enc2R 0x4516#22 fj fd
  | .frsqrtS fd fj => enc2R 0x4519#22 fj fd
  | .frsqrtD fd fj => enc2R 0x451A#22 fj fd
  | .fmovS fd fj => enc2R 0x4525#22 fj fd
  | .fmovD fd fj => enc2R 0x4526#22 fj fd
  | .movgr2frW fd rj => enc2R 0x4529#22 rj fd
  | .movgr2frhW fd rj => enc2R 0x452B#22 rj fd
  | .movfr2grS rd fj => enc2R 0x452D#22 fj rd
  | .movfrh2grS rd fj => enc2R 0x452F#22 fj rd
  | .movgr2fcsr fcsr rj => enc2R 0x4530#22 rj fcsr
  | .movfcsr2gr rd fcsr => enc2R 0x4532#22 fcsr rd
  | .movfr2cf cd fj => enc2R 0x4534#22 fj cd
  | .movcf2fr fd cj => enc2R 0x4535#22 cj fd
  | .movgr2cf cd rj => enc2R 0x4536#22 rj cd
  | .movcf2gr rd cj => enc2R 0x4537#22 cj rd
  | .fcvtSD fd fj => enc2R 0x4646#22 fj fd
  | .fcvtDS fd fj => enc2R 0x4649#22 fj fd
  | .ftintrmWS fd fj => enc2R 0x4681#22 fj fd
  | .ftintrmWD fd fj => enc2R 0x4682#22 fj fd
  | .ftintrpWS fd fj => enc2R 0x4691#22 fj fd
  | .ftintrpWD fd fj => enc2R 0x4692#22 fj fd
  | .ftintrzWS fd fj => enc2R 0x46A1#22 fj fd
  | .ftintrzWD fd fj => enc2R 0x46A2#22 fj fd
  | .ftintrneWS fd fj => enc2R 0x46B1#22 fj fd
  | .ftintrneWD fd fj => enc2R 0x46B2#22 fj fd
  | .ftintWS fd fj => enc2R 0x46C1#22 fj fd
  | .ftintWD fd fj => enc2R 0x46C2#22 fj fd
  | .ffintSW fd fj => enc2R 0x4744#22 fj fd
  | .ffintDW fd fj => enc2R 0x4748#22 fj fd
  | .fmaddS fd fj fk fa => enc4R 0x81#12 fa fk fj fd
  | .fmaddD fd fj fk fa => enc4R 0x82#12 fa fk fj fd
  | .fmsubS fd fj fk fa => enc4R 0x85#12 fa fk fj fd
  | .fmsubD fd fj fk fa => enc4R 0x86#12 fa fk fj fd
  | .fnmaddS fd fj fk fa => enc4R 0x89#12 fa fk fj fd
  | .fnmaddD fd fj fk fa => enc4R 0x8A#12 fa fk fj fd
  | .fnmsubS fd fj fk fa => enc4R 0x8D#12 fa fk fj fd
  | .fnmsubD fd fj fk fa => enc4R 0x8E#12 fa fk fj fd
  | .fcmpCondS cond cd fj fk => enc4R 0xC1#12 cond fk fj cd
  | .fcmpCondD cond cd fj fk => enc4R 0xC2#12 cond fk fj cd
  | .fsel fd fj fk ca => encFsel 0x340#14 ca fk fj fd
  | .bceqz cj offs21 => encFloatBranch 0x12#6 0 cj offs21
  | .bcnez cj offs21 => encFloatBranch 0x12#6 1 cj offs21
  | .fldS fd rj si12 => enc2RI12 0xAC#10 si12 rj fd
  | .fstS fd rj si12 => enc2RI12 0xAD#10 si12 rj fd
  | .fldD fd rj si12 => enc2RI12 0xAE#10 si12 rj fd
  | .fstD fd rj si12 => enc2RI12 0xAF#10 si12 rj fd

end Sys2Proof
end

