-- ==== Sys2Proof/Machine/Fetch.lean ====
section
/-! DEFINITION. Fetching and decoding the instruction at the PC (20_memory.md R105, R107, R111, R162; 30_encoding.md
R177). -/

namespace Sys2Proof.Machine

open Sys2Proof

/-- Whether the fetch of one byte with access type `mat` meets a store not yet made visible to it (R354): with CC any
byte in the record, with SUC one that waits for a write-back or an IBAR. -/
def staleForFetch (s : State) (mat : BitVec 2) (pa : Nat) : Bool :=
  match lookupKey pa s.stale with
  | none => false
  | some f => mat == matCc || f.needWb || f.needIbar

/-- The same for the n bytes from `pa`. -/
def anyStaleForFetch (s : State) (mat : BitVec 2) (pa : Nat) : Nat → Bool
  | 0 => false
  | n + 1 => staleForFetch s mat pa || anyStaleForFetch s mat (pa + 1) n

/-- `Fetch()` (R111): ADEF for a misaligned PC first of all, then the address range, the translation, the access type,
the memory that exists, the stale bytes. -/
def fetchWord (s : State) : Res Word :=
  if aligned .word s.pc then
    (resolve s s.pc .fetch).andThen fun p =>
      if !physRange s.cfg p.1 4 then .refuse .noPhysicalMemory
      else if anyStaleForFetch s p.2 p.1 4 then .fault .staleFetch
      else .ok (readLE s.mem p.1 4)
  else .raise (.adef s.pc)

/-- The instruction a word is; an undefined word raises INE (R177), a non-canonical counter read is refused (R180). The
decoder answers `truncated` for no word. -/
def decodeWord (w : Word) : Res Instr :=
  match decode w with
  | .ok i => .ok i
  | .error .undefinedWord => .raise .ine
  | .error .truncated => .raise .ine
  | .error .nonCanonicalCounter => .refuse .counterReadNonCanonical

/-- The instruction at the PC. -/
def fetchInstr (s : State) : Res Instr := (fetchWord s).andThen decodeWord

end Sys2Proof.Machine
end

