-- ==== Sys2Proof/Machine/Step.lean ====
section
/-! DEFINITION. One step of the core (60_exceptions.md R450): the boundary, then the fetch and decoding of one
instruction, then its meaning. -/

namespace Sys2Proof.Machine

open Sys2Proof

/-- Fetching, decoding and executing one instruction (the last three lines of R450). -/
def runInstr (s : State) : Out := settle s (fetchInstr s) fun i => exec i s

/-- `Step()` (R450). -/
def step (s : State) : Host.Outcome State Fault Refusal :=
  match boundary s with
  | .done o => o
  | .run t => runInstr t

/-- The record without the n bytes from `pa`. -/
def forgetStale (st : List (Nat × StaleFlags)) (pa : Nat) : Nat → List (Nat × StaleFlags)
  | 0 => st
  | n + 1 => forgetStale (eraseKey pa st) (pa + 1) n

/-- `s` with an instruction stored where `step` fetches its next one: at the physical address the PC translates to, its
bytes not stale, the core not waiting (notes/assumptions/1.md). Unchanged where the PC does not translate. -/
def State.withFetchWord (s : State) (nbits w : Nat) : State :=
  match resolve s s.pc .fetch with
  | .ok p =>
    { s with
      mem := writeLE s.mem p.1 4 (BitVec.ofNat 32 (w % 2 ^ nbits))
      stale := forgetStale s.stale p.1 4
      idle := false }
  | _ => s

end Sys2Proof.Machine
end

