-- ==== Sys2Proof/Safety.lean ====
section
/-! DEFINITION. The terms in which claims about the machine are made: what a well-formed state is (70_reset_and_hazards.md
R470), when a step meets no outside event, and the effects instructions of one shape have. -/

namespace Sys2Proof.Machine

open Sys2Proof

/-- A step or an instruction that ends in a next state, of which `P` holds. -/
def Ends (o : Out) (P : State → Prop) : Prop := ∃ t, o = .next t ∧ P t

/-- A run of k steps meets neither a fault nor a refusal. -/
def SafeRun (k : Nat) (s : State) : Prop := ∃ t, Sys2Proof.core.run k s = .next t

/-- Memory is in its canonical form. -/
def MemoryCanonical (s : State) : Prop := Memory.wf s.mem = true

/-- The addresses of the `stale` record rise strictly. -/
def StaleOrdered (s : State) : Prop := risingFrom none s.stale = true

/-- The current privilege level is one of the two of LA32R (R440, R470). -/
def LevelLegal (s : State) : Prop := crmdPlv s.csr = 0 ∨ crmdPlv s.csr = 3

/-- The bits of a CSR that some event can set: those software writes, and the two fields of ESTAT that exception entry
writes (R32 to R56). -/
def implemented (s : State) : CsrName → Word
  | .estat => 0x7FFF0003
  | n => rwMask s n

/-- Every reserved bit of every CSR is 0 (R30, R470). -/
def ReservedZero (s : State) : Prop := ∀ n, stored s.csr n &&& ~~~implemented s n = 0

/-- The slot of the hardwired register holds 0 (R21, R470). -/
def ZeroSlot (s : State) : Prop := s.gpr[0] = 0

/-- The timer runs only while TCFG.En is 1 (R445). -/
def TimerEnabled (s : State) : Prop := s.timer.running = true → tcfgEn s.csr = true

/-- Nothing from outside meets this step: no environment event is listed, the timer stands, the translation mode is
defined, the core does not wait, and no interrupt is both pending and enabled. -/
def Quiet (s : State) : Prop :=
  s.env = [] ∧ s.timer.running = false ∧ crmdDa s.csr ≠ crmdPg s.csr ∧ s.idle = false ∧ intPending s = false

/-- The effect of an instruction whose result goes into `rd`: register `rd` holds `v` unless it is `x[0]`, which reads 0;
every other register is as before; the PC is the next instruction's; nothing else changes. -/
def RegisterEffect (s : State) (rd : Reg) (v : Word) (t : State) : Prop :=
  (∃ g, t = { s with gpr := g, pc := s.pc + 4 }) ∧
    ∀ r, readReg t r = if r = 0 then 0 else if r = rd then v else readReg s r

/-- The effect of a jump to `target` that writes `v` into `rd`. -/
def LinkEffect (s : State) (rd : Reg) (v target : Word) (t : State) : Prop :=
  (∃ g, t = { s with gpr := g, pc := target }) ∧
    ∀ r, readReg t r = if r = 0 then 0 else if r = rd then v else readReg s r

/-- The n bytes from `pa` hold the low n bytes of `v`, least significant first (R104); every other byte is as before. -/
def BytesStored (m m' : Memory) (pa n : Nat) (v : Word) : Prop :=
  (∀ k, k < n → readByte m' (pa + k) = v.extractLsb' (8 * k) 8) ∧
    ∀ a, a < pa ∨ pa + n ≤ a → readByte m' a = readByte m a

/-- The n bytes from `pa` are in the `stale` record as a store of access type `mat` leaves them (R354); every other byte
is as before. -/
def StaleStored (st st' : List (Nat × StaleFlags)) (pa n : Nat) (mat : BitVec 2) : Prop :=
  (∀ k, k < n →
      lookupKey (pa + k) st' = some { needWb := mat == matCc, needInv := true, needIbar := true }) ∧
    ∀ a, a < pa ∨ pa + n ≤ a → lookupKey a st' = lookupKey a st

/-- The effect of a store of n bytes of `v` at `pa`: no register, no CSR and no LLbit changes. -/
def StoreEffect (s : State) (pa n : Nat) (mat : BitVec 2) (v : Word) (t : State) : Prop :=
  (∃ m st, t = { s with mem := m, stale := st, ccDirty := s.ccDirty || mat == matCc, pc := s.pc + 4 }) ∧
    BytesStored s.mem t.mem pa n v ∧ StaleStored s.stale t.stale pa n mat

end Sys2Proof.Machine
end

