-- ==== Sys2Proof/Certificates/Slice0/Obligations.lean ====
section
/-! DEFINITION. The statements for the provers. Each cites the rules of spec/ it formalises. -/

open Sys2Proof Sys2Proof.Machine

/-- 60_exceptions.md R450: when a boundary lets an instruction start in `t` and the word at its PC decodes to a well-formed
`i`, the step is `exec i t`; from a state that no outside event meets, the instruction starts in that very state. `runInstr`,
which other statements name, is that last part of a step. -/
def Obligations.StepRunsDecodedInstruction : Prop :=
  (∀ (s t : State) (w : Word) (i : Instr), boundary s = .run t → fetchWord t = .ok w → decode w = .ok i →
      i.wellFormed = true → step s = exec i t) ∧
  (∀ (s : State) (w : Word) (i : Instr), Quiet s → fetchWord s = .ok w → decode w = .ok i →
      i.wellFormed = true → step s = exec i s) ∧
  (∀ s t : State, boundary s = .run t → step s = runInstr t) ∧ (∀ s : State, Quiet s → step s = runInstr s) ∧
  (∀ (t : State) (w : Word) (i : Instr), fetchWord t = .ok w → decode w = .ok i → i.wellFormed = true →
    runInstr t = exec i t)

/-- 30_encoding.md R175, R172 to R174, 46_float.md R331: words of every format an LA32R instruction uses (2R, 3R, 4R, 2RI12,
2RI14, 2RI16, 1RI21, I26 of R172, all of R173, and the shapes of R331), written out from their encoding. -/
def Obligations.KnownWordsDecode : Prop :=
  decode 0x001018A4 = .ok (.addW 4 5 6) ∧ decode 0x02BFFCA4 = .ok (.addiW 4 5 0xFFF) ∧
  decode 0x142468A4 = .ok (.lu12iW 4 0x12345 ) ∧ decode 0x00408884 = .ok (.slliW 4 4 2) ∧
  decode 0x580010A6 = .ok (.beq 5 6 4) ∧ decode 0x53FFFDFF = .ok (.b 0x1FFFFFF) ∧
  decode 0x4C0008A1 = .ok (.jirl 1 5 2) ∧ decode 0x29BFF0A4 = .ok (.stW 4 5 0xFFC) ∧
  decode 0x20FFFCA4 = .ok (.llW 4 5 0x3FFF) ∧ decode 0x002B0011 = .ok (.syscallI 0x11) ∧
  decode 0x04000004 = .ok (.csrrd 4 0) ∧ decode 0x04003024 = .ok (.csrwr 4 0xC) ∧
  decode 0x040000A4 = .ok (.csrxchg 4 5 0) ∧ decode 0x060000B1 = .ok (.cacop 0x11 5 0) ∧
  decode 0x064998A5 = .ok (.invtlb 5 5 6) ∧ decode 0x06483800 = .ok .ertn ∧
  decode 0x00006004 = .ok (.rdcntvlW 4) ∧ decode 0x000060A0 = .ok (.rdcntid 5) ∧
  decode 0x01008000 = .ok (.faddS 0 0 0) ∧ decode 0x0119186C = .ok (.fcvtSD 12 3) ∧
  decode 0x08120C41 = .ok (.fmaddS 1 2 3 4) ∧ decode 0x0C110C81 = .ok (.fcmpCondS 2 1 4 3) ∧
  decode 0x0D028443 = .ok (.fsel 3 2 1 5) ∧ decode 0x48000841 = .ok (.bceqz 2 0x10002) ∧
  decode 0x4BFFFDFF = .ok (.bcnez 7 0x1FFFFF) ∧ decode 0x2B3FFCA2 = .ok (.fldS 2 5 0xFFF) ∧
  decode 0 = .error .undefinedWord ∧ decode 0x000060A4 = .error .nonCanonicalCounter

/-- 30_encoding.md R175, 46_float.md R331: decoding the word of a well-formed instruction gives the instruction back. -/
def Obligations.DecodeOfEncode : Prop :=
  ∀ i : Instr, i.wellFormed = true → decode (encode i) = .ok i

/-- 30_encoding.md R175, 46_float.md R331: a word that decodes is the word of the instruction it decodes to, and that
instruction is well-formed: each word has one meaning and no bit of it is dropped. -/
def Obligations.EncodeOfDecode : Prop :=
  ∀ (w : Word) (i : Instr), decode w = .ok i → encode i = w ∧ i.wellFormed = true

/-- 20_memory.md R107, R111, R114, R125, R162; 47_privileged.md R354; 30_encoding.md R177, R180; 60_exceptions.md R450: a step
with CRMD.DA = CRMD.PG is refused. How a fetch ends: ADEF for a misaligned PC before anything else; the exception of its
address; a refusal where no memory is; a fault for a byte this core stored and has not yet made visible to its fetches (CC:
any byte in the record; SUC: one with need_wb or need_ibar); else the four bytes, least significant first. INE for a word
that matches no row; a non-canonical counter read is declined. -/
def Obligations.FetchOutcomes : Prop :=
  (∀ s : State, resetAsserted s = false → crmdDa s.csr = crmdPg s.csr → step s = .refused .addressModeUndefined) ∧
  ∀ s : State, Quiet s →
    (s.pc.toNat % 4 ≠ 0 → step s = .next (enter (.adef s.pc) s)) ∧
    (s.pc.toNat % 4 = 0 → ∀ e, resolve s s.pc .fetch = .raise e → step s = .next (enter e s)) ∧
    (s.pc.toNat % 4 = 0 → ∀ pa mat, resolve s s.pc .fetch = .ok (pa, mat) →
      ((∃ k, k < 4 ∧ physExists s.cfg (pa + k) = false) → step s = .refused .noPhysicalMemory) ∧
      ((∀ k, k < 4 → physExists s.cfg (pa + k) = true) →
        (mat = 1 → (∃ k, k < 4 ∧ lookupKey (pa + k) s.stale ≠ none) → step s = .fault .staleFetch) ∧
        (mat = 0 → (∃ k f, k < 4 ∧ lookupKey (pa + k) s.stale = some f ∧ (f.needWb = true ∨ f.needIbar = true)) →
          step s = .fault .staleFetch) ∧
        ((mat = 1 → ∀ k, k < 4 → lookupKey (pa + k) s.stale = none) →
          (mat = 0 → ∀ k f, k < 4 → lookupKey (pa + k) s.stale = some f → f.needWb = false ∧ f.needIbar = false) →
          fetchWord s = .ok
            (readByte s.mem (pa + 3) ++ readByte s.mem (pa + 2) ++ readByte s.mem (pa + 1) ++ readByte s.mem pa)))) ∧
    ∀ w, fetchWord s = .ok w →
      (decode w = .error .undefinedWord → step s = .next (enter .ine s)) ∧
      (decode w = .error .nonCanonicalCounter → step s = .refused .counterReadNonCanonical)

/-- The model's data invariant (notes/assumptions/5.md): memory keeps its canonical form and the `stale` record its
order through every step. -/
def Obligations.StepKeepsMemoryCanonical : Prop :=
  ∀ s t : State, MemoryCanonical s → StaleOrdered s → step s = .next t → MemoryCanonical t ∧ StaleOrdered t

/-- 60_exceptions.md R440, 70_reset_and_hazards.md R470: the current level stays 0 or 3 through every step. -/
def Obligations.StepKeepsLevelLegal : Prop :=
  ∀ s t : State, LevelLegal s → step s = .next t → LevelLegal t

/-- 10_state.md R30, 70_reset_and_hazards.md R470: every reserved bit of every CSR stays 0 through every step. -/
def Obligations.StepKeepsReservedBitsZero : Prop :=
  ∀ s t : State, ReservedZero s → step s = .next t → ReservedZero t

/-- 10_state.md R21, R58; 60_exceptions.md R445: the slot of `x[0]` stays 0, the timer runs only while enabled, and the
number of TLB entries and the parameters never change. -/
def Obligations.StepKeepsZeroSlotTimerAndSizes : Prop :=
  ∀ s t : State, step s = .next t →
    (ZeroSlot s → ZeroSlot t) ∧ (TimerEnabled s → TimerEnabled t) ∧ t.tlb.length = s.tlb.length ∧ t.cfg = s.cfg

/-- The state after reset meets every invariant stated above. -/
def Obligations.ResetMeetsInvariants : Prop :=
  MemoryCanonical State.reset ∧ StaleOrdered State.reset ∧ LevelLegal State.reset ∧ ReservedZero State.reset ∧
    ZeroSlot State.reset ∧ TimerEnabled State.reset

/-- 60_exceptions.md R441, R450: PLV3 is left only by exception or interrupt entry, from the very state this step's
instruction starts in (the state after the environment acted, no longer waiting, whatever was drawn), or by reset. -/
def Obligations.UserLevelLeftOnlyByEntry : Prop :=
  ∀ s t : State, crmdPlv s.csr = 3 → step s = .next t →
    crmdPlv t.csr = 3 ∨ (∃ e n, t = enter e { environment s with idle := false, draws := n }) ∨
      (resetAsserted s = true ∧ t = warmReset (environment s))

/-- 60_exceptions.md R440, 47_privileged.md R343: at PLV3 no instruction changes a CSR, the TLB, the timer or the wait,
except by raising an exception. -/
def Obligations.UserInstructionKeepsPrivilegedState : Prop :=
  ∀ (i : Instr) (s t : State), crmdPlv s.csr = 3 → exec i s = .next t →
    (t.csr = s.csr ∧ t.tlb = s.tlb ∧ t.timer = s.timer ∧ t.idle = s.idle) ∨ ∃ e, t = enter e s

/-- 40_int_arith.md R210 to R214. -/
def Obligations.AddSubtractResult : Prop :=
  ∀ (rd rj rk : Reg) (si12 : BitVec 12) (si20 : BitVec 20) (s : State),
    Ends (exec (.addW rd rj rk) s) (RegisterEffect s rd (readReg s rj + readReg s rk)) ∧
    Ends (exec (.subW rd rj rk) s) (RegisterEffect s rd (readReg s rj - readReg s rk)) ∧
    Ends (exec (.addiW rd rj si12) s) (RegisterEffect s rd (readReg s rj + si12.signExtend 32)) ∧
    Ends (exec (.lu12iW rd si20) s) (RegisterEffect s rd (si20 ++ 0#12)) ∧
    Ends (exec (.pcaddu12i rd si20) s) (RegisterEffect s rd (s.pc + (si20 ++ 0#12)))

/-- 40_int_arith.md R215 to R218: the result is the word 1 or 0. -/
def Obligations.CompareResult : Prop :=
  ∀ (rd rj rk : Reg) (si12 : BitVec 12) (s : State),
    Ends (exec (.slt rd rj rk) s)
      (RegisterEffect s rd (if (readReg s rj).toInt < (readReg s rk).toInt then 1 else 0)) ∧
    Ends (exec (.sltu rd rj rk) s)
      (RegisterEffect s rd (if (readReg s rj).toNat < (readReg s rk).toNat then 1 else 0)) ∧
    Ends (exec (.slti rd rj si12) s)
      (RegisterEffect s rd (if (readReg s rj).toInt < si12.toInt then 1 else 0)) ∧
    Ends (exec (.sltui rd rj si12) s)
      (RegisterEffect s rd (if (readReg s rj).toNat < (si12.signExtend 32).toNat then 1 else 0))

/-- 40_int_arith.md R220 to R226. -/
def Obligations.LogicResult : Prop :=
  ∀ (rd rj rk : Reg) (ui12 : BitVec 12) (s : State),
    Ends (exec (.andR rd rj rk) s) (RegisterEffect s rd (readReg s rj &&& readReg s rk)) ∧
    Ends (exec (.orR rd rj rk) s) (RegisterEffect s rd (readReg s rj ||| readReg s rk)) ∧
    Ends (exec (.norR rd rj rk) s) (RegisterEffect s rd (~~~(readReg s rj ||| readReg s rk))) ∧
    Ends (exec (.xorR rd rj rk) s) (RegisterEffect s rd (readReg s rj ^^^ readReg s rk)) ∧
    Ends (exec (.andi rd rj ui12) s) (RegisterEffect s rd (readReg s rj &&& ui12.setWidth 32)) ∧
    Ends (exec (.ori rd rj ui12) s) (RegisterEffect s rd (readReg s rj ||| ui12.setWidth 32)) ∧
    Ends (exec (.xori rd rj ui12) s) (RegisterEffect s rd (readReg s rj ^^^ ui12.setWidth 32))

/-- 40_int_arith.md R230 to R232: the low word of the product, and the high word of the signed and of the unsigned
product, as the exact product divided by 2^32. -/
def Obligations.MultiplyResult : Prop :=
  ∀ (rd rj rk : Reg) (s : State),
    Ends (exec (.mulW rd rj rk) s) (RegisterEffect s rd (BitVec.ofNat 32 ((readReg s rj).toNat * (readReg s rk).toNat))) ∧
    Ends (exec (.mulhW rd rj rk) s)
      (RegisterEffect s rd (BitVec.ofInt 32 ((readReg s rj).toInt * (readReg s rk).toInt / 2 ^ 32))) ∧
    Ends (exec (.mulhWu rd rj rk) s)
      (RegisterEffect s rd (BitVec.ofNat 32 ((readReg s rj).toNat * (readReg s rk).toNat / 2 ^ 32)))

/-- 40_int_arith.md R233 to R236, R241: for a divisor that is not 0 the signed quotient truncated toward zero and its
remainder outside the one overflow, the parameters there, and the unsigned quotient and remainder; for a zero divisor a
free word, one free value used up (the form of a free value is the model's: notes/assumptions/7.md), and no
exception. -/
def Obligations.DivideResult : Prop :=
  ∀ (rd rj rk : Reg) (s : State),
   (readReg s rk ≠ 0 →
    (¬ (readReg s rj = 0x80000000 ∧ readReg s rk = 0xFFFFFFFF) →
      Ends (exec (.divW rd rj rk) s)
        (RegisterEffect s rd (BitVec.ofInt 32 ((readReg s rj).toInt.tdiv (readReg s rk).toInt))) ∧
      Ends (exec (.modW rd rj rk) s)
        (RegisterEffect s rd (BitVec.ofInt 32 ((readReg s rj).toInt.tmod (readReg s rk).toInt)))) ∧
    (readReg s rj = 0x80000000 ∧ readReg s rk = 0xFFFFFFFF →
      Ends (exec (.divW rd rj rk) s) (RegisterEffect s rd s.cfg.divOverflowQ) ∧
      Ends (exec (.modW rd rj rk) s) (RegisterEffect s rd s.cfg.divOverflowR)) ∧
    Ends (exec (.divWu rd rj rk) s) (RegisterEffect s rd (readReg s rj / readReg s rk)) ∧
    Ends (exec (.modWu rd rj rk) s) (RegisterEffect s rd (readReg s rj % readReg s rk))) ∧
    (readReg s rk = 0 → ∀ i ∈ [Instr.divW rd rj rk, .modW rd rj rk, .divWu rd rj rk, .modWu rd rj rk],
      Ends (exec i s) (RegisterEffect { s with draws := s.draws + 1 } rd (Config.freeWord s.draws)))

/-- 40_int_arith.md R241: quotient and remainder satisfy dividend = quotient * divisor + remainder exactly; the remainder
has the sign of the dividend or is 0 and is smaller than the divisor (R234). -/
def Obligations.DivisionLaw : Prop :=
  ∀ (rd rj rk : Reg) (s q r : State), rd ≠ 0 → readReg s rk ≠ 0 →
    ¬ (readReg s rj = 0x80000000 ∧ readReg s rk = 0xFFFFFFFF) →
    exec (.divW rd rj rk) s = .next q → exec (.modW rd rj rk) s = .next r →
    (readReg s rj).toInt = (readReg q rd).toInt * (readReg s rk).toInt + (readReg r rd).toInt ∧
    (readReg r rd).toInt.natAbs < (readReg s rk).toInt.natAbs ∧
    0 ≤ (readReg r rd).toInt * (readReg s rj).toInt

/-- 41_shift.md R250 to R256: only the low five bits of a register count; the arithmetic shift is the floor of the signed
value divided by the power of two. -/
def Obligations.ShiftResult : Prop :=
  ∀ (rd rj rk : Reg) (ui5 : BitVec 5) (s : State),
    Ends (exec (.sllW rd rj rk) s)
      (RegisterEffect s rd (BitVec.ofNat 32 ((readReg s rj).toNat * 2 ^ ((readReg s rk).toNat % 32)))) ∧
    Ends (exec (.srlW rd rj rk) s)
      (RegisterEffect s rd (BitVec.ofNat 32 ((readReg s rj).toNat / 2 ^ ((readReg s rk).toNat % 32)))) ∧
    Ends (exec (.sraW rd rj rk) s)
      (RegisterEffect s rd (BitVec.ofInt 32 ((readReg s rj).toInt / 2 ^ ((readReg s rk).toNat % 32)))) ∧
    Ends (exec (.slliW rd rj ui5) s)
      (RegisterEffect s rd (BitVec.ofNat 32 ((readReg s rj).toNat * 2 ^ ui5.toNat))) ∧
    Ends (exec (.srliW rd rj ui5) s)
      (RegisterEffect s rd (BitVec.ofNat 32 ((readReg s rj).toNat / 2 ^ ui5.toNat))) ∧
    Ends (exec (.sraiW rd rj ui5) s)
      (RegisterEffect s rd (BitVec.ofInt 32 ((readReg s rj).toInt / 2 ^ ui5.toNat)))

/-- 42_branch.md R260, R262 to R267: a conditional branch changes the PC alone. -/
def Obligations.ConditionalBranchResult : Prop :=
  ∀ (rj rd : Reg) (i : BitVec 16) (s : State),
    exec (.beq rj rd i) s
      = .next { s with pc := s.pc + if readReg s rj = readReg s rd then (i ++ 0#2).signExtend 32 else 4 } ∧
    exec (.bne rj rd i) s
      = .next { s with pc := s.pc + if readReg s rj = readReg s rd then 4 else (i ++ 0#2).signExtend 32 } ∧
    exec (.blt rj rd i) s
      = .next { s with
          pc := s.pc + if (readReg s rj).toInt < (readReg s rd).toInt then (i ++ 0#2).signExtend 32 else 4 } ∧
    exec (.bge rj rd i) s
      = .next { s with
          pc := s.pc + if (readReg s rj).toInt < (readReg s rd).toInt then 4 else (i ++ 0#2).signExtend 32 } ∧
    exec (.bltu rj rd i) s
      = .next { s with
          pc := s.pc + if (readReg s rj).toNat < (readReg s rd).toNat then (i ++ 0#2).signExtend 32 else 4 } ∧
    exec (.bgeu rj rd i) s
      = .next { s with
          pc := s.pc + if (readReg s rj).toNat < (readReg s rd).toNat then 4 else (i ++ 0#2).signExtend 32 }

/-- 42_branch.md R268 to R270, 10_state.md R22: BL links into `x[1]`; JIRL reads its base before it writes the link. -/
def Obligations.JumpResult : Prop :=
  ∀ (rd rj : Reg) (i : BitVec 26) (j : BitVec 16) (s : State),
    exec (.b i) s = .next { s with pc := s.pc + (i ++ 0#2).signExtend 32 } ∧
    Ends (exec (.bl i) s) (LinkEffect s 1 (s.pc + 4) (s.pc + (i ++ 0#2).signExtend 32)) ∧
    Ends (exec (.jirl rd rj j) s)
      (LinkEffect s rd (s.pc + 4) (readReg s rj + (j ++ 0#2).signExtend 32))

/-- 43_load_store.md R280 to R284, R290; 20_memory.md R104: a load whose access passes its checks at `(pa, mat)` puts the
bytes there, least significant first, sign- or zero-extended, into `rd`, and changes nothing else. -/
def Obligations.LoadResult : Prop :=
  ∀ (rd rj : Reg) (i : BitVec 12) (s : State) (pa : Nat) (mat : BitVec 2),
    (dataAccess s .byte (readReg s rj + i.signExtend 32) .load = .ok (pa, mat) →
      Ends (exec (.ldB rd rj i) s) (RegisterEffect s rd ((readByte s.mem pa).signExtend 32)) ∧
      Ends (exec (.ldBu rd rj i) s) (RegisterEffect s rd ((readByte s.mem pa).setWidth 32))) ∧
    (dataAccess s .half (readReg s rj + i.signExtend 32) .load = .ok (pa, mat) →
      Ends (exec (.ldH rd rj i) s)
        (RegisterEffect s rd ((readByte s.mem (pa + 1) ++ readByte s.mem pa).signExtend 32)) ∧
      Ends (exec (.ldHu rd rj i) s)
        (RegisterEffect s rd ((readByte s.mem (pa + 1) ++ readByte s.mem pa).setWidth 32))) ∧
    (dataAccess s .word (readReg s rj + i.signExtend 32) .load = .ok (pa, mat) →
      Ends (exec (.ldW rd rj i) s)
        (RegisterEffect s rd
          (readByte s.mem (pa + 3) ++ readByte s.mem (pa + 2) ++ readByte s.mem (pa + 1) ++ readByte s.mem pa)))

/-- 43_load_store.md R285 to R287, R290; 20_memory.md R104: a store whose access passes its checks at `(pa, mat)` puts the
low bytes of `x[rd]` there, least significant first, and changes nothing else but the `stale` bookkeeping of R354. -/
def Obligations.StoreResult : Prop :=
  ∀ (rd rj : Reg) (i : BitVec 12) (s : State) (pa : Nat) (mat : BitVec 2), MemoryCanonical s →
    (dataAccess s .byte (readReg s rj + i.signExtend 32) .store = .ok (pa, mat) →
      Ends (exec (.stB rd rj i) s) (StoreEffect s pa 1 mat (readReg s rd))) ∧
    (dataAccess s .half (readReg s rj + i.signExtend 32) .store = .ok (pa, mat) →
      Ends (exec (.stH rd rj i) s) (StoreEffect s pa 2 mat (readReg s rd))) ∧
    (dataAccess s .word (readReg s rj + i.signExtend 32) .store = .ok (pa, mat) →
      Ends (exec (.stW rd rj i) s) (StoreEffect s pa 4 mat (readReg s rd)))

/-- 43_load_store.md R291, 20_memory.md R110: a data access is checked for alignment, then address range, then translated;
the access type and the memory that exists come after (R114, R142), the `stale` record last (R354); that exceptions come
before what the model declines is its own reading (notes/assumptions/24.md). An access is of 1, 2 or 4 bytes; a byte exists
where a range of PhysMem holds it (that the map has ranges and no kinds is the model's: notes/assumptions/19.md). -/
def Obligations.DataAccessChecks : Prop :=
  (widthBytes .byte = 1 ∧ widthBytes .half = 2 ∧ widthBytes .word = 4) ∧
  (∀ (cfg : Config.Params) (a : Nat),
    physExists cfg a = true ↔ ∃ r ∈ cfg.physMem, r.base ≤ a ∧ a < r.base + r.size) ∧
  ∀ (s : State) (w : Width) (va : Word) (k : Access),
    (va.toNat % widthBytes w ≠ 0 → dataAccess s w va k = .raise (.ale va)) ∧
    (va.toNat % widthBytes w = 0 → userRangeError s va = true →
      dataAccess s w va k = .raise (if k = .fetch then .adef va else .adem va)) ∧
    (va.toNat % widthBytes w = 0 → userRangeError s va = false → ∀ e, Machine.translate s va k = .raise e →
      dataAccess s w va k = .raise e) ∧
    (va.toNat % widthBytes w = 0 → userRangeError s va = false → ∀ pa mat, Machine.translate s va k = .ok (pa, mat) →
      (mat = 2 ∨ mat = 3 → dataAccess s w va k = .refuse .accessTypeReserved) ∧
      (mat = 0 ∨ mat = 1 →
        ((∃ j, j < widthBytes w ∧ physExists s.cfg (pa + j) = false) →
          dataAccess s w va k = .refuse .noPhysicalMemory) ∧
        ((∀ j, j < widthBytes w → physExists s.cfg (pa + j) = true) →
          (mat = 0 → (∃ j f, j < widthBytes w ∧ lookupKey (pa + j) s.stale = some f ∧ f.needWb = true) →
            dataAccess s w va k = .refuse .uncachedAfterCached) ∧
          (mat = 1 ∨ (∀ j f, j < widthBytes w → lookupKey (pa + j) s.stale = some f → f.needWb = false) →
            dataAccess s w va k = .ok (pa, mat)))))

/-- 43_load_store.md R291, 60_exceptions.md R402: a load or store whose checks raise takes that exception from the state
before the instruction: no register and no memory changes. -/
def Obligations.FailedAccessIsPrecise : Prop :=
  ∀ (rd rj : Reg) (i : BitVec 12) (s : State) (e : Exc),
    (dataAccess s .byte (readReg s rj + i.signExtend 32) .load = .raise e →
      exec (.ldB rd rj i) s = .next (enter e s) ∧ exec (.ldBu rd rj i) s = .next (enter e s)) ∧
    (dataAccess s .half (readReg s rj + i.signExtend 32) .load = .raise e →
      exec (.ldH rd rj i) s = .next (enter e s) ∧ exec (.ldHu rd rj i) s = .next (enter e s)) ∧
    (dataAccess s .word (readReg s rj + i.signExtend 32) .load = .raise e →
      exec (.ldW rd rj i) s = .next (enter e s)) ∧
    (dataAccess s .byte (readReg s rj + i.signExtend 32) .store = .raise e →
      exec (.stB rd rj i) s = .next (enter e s)) ∧
    (dataAccess s .half (readReg s rj + i.signExtend 32) .store = .raise e →
      exec (.stH rd rj i) s = .next (enter e s)) ∧
    (dataAccess s .word (readReg s rj + i.signExtend 32) .store = .raise e →
      exec (.stW rd rj i) s = .next (enter e s))

/-- 20_memory.md R121, R123, R124, R140: direct mode takes the address as it is and the type from DATF or DATM; mapped
mode takes DMW0, then DMW1: `{PSEG, va[28:0]}` and the window's MAT, where VSEG and the privilege level agree. Every
physical address is taken modulo 2^PALEN (R102); that this cuts a window's address where PALEN is below 32 is the model's
reading (DEDUCED: notes/assumptions/23.md). -/
def Obligations.DirectAndWindowTranslation : Prop :=
  ∀ (s : State) (va : Word) (k : Access),
    (crmdDa s.csr = true → crmdPg s.csr = false →
      Machine.translate s va k
        = .ok (va.toNat % 2 ^ s.cfg.palen, if k = .fetch then crmdDatf s.csr else crmdDatm s.csr)) ∧
    (crmdDa s.csr = false → crmdPg s.csr = true →
      (windowHit s.csr s.csr.dmw0 va = true →
        Machine.translate s va k
          = .ok ((bits 25 3 s.csr.dmw0 ++ bits 0 29 va).toNat % 2 ^ s.cfg.palen, bits 4 2 s.csr.dmw0)) ∧
      (windowHit s.csr s.csr.dmw0 va = false → windowHit s.csr s.csr.dmw1 va = true →
        Machine.translate s va k
          = .ok ((bits 25 3 s.csr.dmw1 ++ bits 0 29 va).toNat % 2 ^ s.cfg.palen, bits 4 2 s.csr.dmw1))) ∧
    ∀ w, windowHit s.csr w va = true ↔
      bits 29 3 va = bits 29 3 w ∧
        ((crmdPlv s.csr = 0 ∧ bit 0 w = true) ∨ (crmdPlv s.csr = 3 ∧ bit 3 w = true))

/-- 20_memory.md R126 to R129: an entry is looked at when E is 1 and it is global or of the ASID of csr.ASID. A mapped
access no window takes looks in the TLB; where such an entry has a page size that is not legal, it is declined (93 U24;
before any match, the model's reading: notes/assumptions/12.md). Else, with no matching entry: TLBR. With two: a fault. With
one: V, PLV, D in that order, then the address. -/
def Obligations.TlbTranslation : Prop :=
  (∀ (c : Csrs) (e : TlbEntry),
    inSpace (asidAsid c) e = true ↔ e.e = true ∧ (e.g = true ∨ e.asid = bits 0 10 c.asid)) ∧
  (∀ (cfg : Config.Params) (ps : BitVec 6), legalPs cfg ps = true ↔ ps = 12 ∨ ps = cfg.psLarge) ∧
  ∀ (s : State) (va : Word) (k : Access), crmdDa s.csr = false → crmdPg s.csr = true →
    windowHit s.csr s.csr.dmw0 va = false → windowHit s.csr s.csr.dmw1 va = false →
    ((∃ e ∈ s.tlb, inSpace (asidAsid s.csr) e = true ∧ legalPs s.cfg e.ps = false) →
      Machine.translate s va k = .refuse .pageSizeIllegal) ∧
    ((∀ e ∈ s.tlb, inSpace (asidAsid s.csr) e = true → legalPs s.cfg e.ps = true) →
      ((∀ e ∈ s.tlb, inSpace (asidAsid s.csr) e = true → vppnMatches e va = false) →
        Machine.translate s va k = .raise (.tlbr va)) ∧
      (∀ (m n : Nat) (e f : TlbEntry), m ≠ n → s.tlb[m]? = some e → s.tlb[n]? = some f →
        inSpace (asidAsid s.csr) e = true → vppnMatches e va = true →
        inSpace (asidAsid s.csr) f = true → vppnMatches f va = true →
        Machine.translate s va k = .fault .tlbMultipleHit) ∧
      (∀ (n : Nat) (e : TlbEntry), s.tlb[n]? = some e → inSpace (asidAsid s.csr) e = true → vppnMatches e va = true →
        (∀ (m : Nat) (f : TlbEntry), s.tlb[m]? = some f → inSpace (asidAsid s.csr) f = true →
          vppnMatches f va = true → m = n) →
        Machine.translate s va k =
          if (pageOf e va).v = false then
            .raise (match k with | .fetch => .pif va | .load => .pil va | .store => .pis va)
          else if (pageOf e va).plv.toNat < (crmdPlv s.csr).toNat then .raise (.ppi va)
          else if k = .store ∧ (pageOf e va).d = false then .raise (.pme va)
          else .ok (pageAddress s.cfg e.ps.toNat (pageOf e va).ppn va, (pageOf e va).mat)))

/-- 20_memory.md R127, 10_state.md R58: for the 4 KB and the 4 MB page, which addresses an entry matches, which of its two
pages an address takes, and the physical address. -/
def Obligations.PageGeometry : Prop :=
  ∀ (e : TlbEntry) (cfg : Config.Params) (va : Word) (ppn : BitVec 24),
    (e.ps = 12 →
      (vppnMatches e va = true ↔ e.vppn = bits 13 19 va) ∧
      pageOf e va = (if bit 12 va then e.page1 else e.page0)) ∧
    (e.ps = 22 →
      (vppnMatches e va = true ↔ e.vppn.extractLsb' 10 9 = bits 23 9 va) ∧
      pageOf e va = (if bit 22 va then e.page1 else e.page0)) ∧
    pageAddress cfg 12 ppn va = (ppn ++ bits 0 12 va).toNat % 2 ^ cfg.palen ∧
    pageAddress cfg 22 ppn va = (ppn.extractLsb' 10 14 ++ bits 0 22 va).toNat % 2 ^ cfg.palen

/-- 20_memory.md R112, R120, R142: the address error is found exactly where the parameter says so, in mapped mode, at
PLV3, for an address in the high half that neither window takes; it raises ADEF for a fetch and ADEM for a load or store.
Every other access, of whatever kind, resolves to its translation: what that raises, is declined for or faults on, or the
physical address and the type, the reserved types 2 and 3 declined. -/
def Obligations.HighHalfAtUserLevel : Prop :=
  ∀ (s : State) (va : Word),
    (userRangeError s va = true ↔
      s.cfg.adeOnPlv3High = true ∧ crmdDa s.csr = false ∧ crmdPg s.csr = true ∧ crmdPlv s.csr = 3 ∧
        bit 31 va = true ∧ windowHit s.csr s.csr.dmw0 va = false ∧ windowHit s.csr s.csr.dmw1 va = false) ∧
    (userRangeError s va = true →
      resolve s va .fetch = .raise (.adef va) ∧ resolve s va .load = .raise (.adem va) ∧
        resolve s va .store = .raise (.adem va)) ∧
    (userRangeError s va = false → ∀ k : Access,
      resolve s va k = match Machine.translate s va k with
        | .ok (pa, mat) => if mat = 0 ∨ mat = 1 then .ok (pa, mat) else .refuse .accessTypeReserved
        | .raise e => .raise e
        | .refuse r => .refuse r
        | .fault f => .fault f)

/-- 44_atomic_barrier.md R300, R301, R305: LL.W on CC memory loads the word, sets LLbit and records the physical address;
LL.W, and SC.W with LLbit 1, raise what a word access raises, and are declined on memory that is not CC. -/
def Obligations.LoadLinkedResult : Prop :=
  ∀ (rd rj : Reg) (i : BitVec 14) (s : State) (pa : Nat),
    (dataAccess s .word (readReg s rj + (i ++ 0#2).signExtend 32) .load = .ok (pa, 1) →
      Ends (exec (.llW rd rj i) s)
        (RegisterEffect { s with llbit := true, lladdr := pa } rd
          (readByte s.mem (pa + 3) ++ readByte s.mem (pa + 2) ++ readByte s.mem (pa + 1) ++ readByte s.mem pa))) ∧
    (∀ e, dataAccess s .word (readReg s rj + (i ++ 0#2).signExtend 32) .load = .raise e →
      exec (.llW rd rj i) s = .next (enter e s)) ∧
    (∀ e, dataAccess s .word (readReg s rj + (i ++ 0#2).signExtend 32) .store = .raise e → s.llbit = true →
      exec (.scW rd rj i) s = .next (enter e s)) ∧
    (dataAccess s .word (readReg s rj + (i ++ 0#2).signExtend 32) .load = .ok (pa, 0) →
      exec (.llW rd rj i) s = .refused .llscNotCached) ∧
    (dataAccess s .word (readReg s rj + (i ++ 0#2).signExtend 32) .store = .ok (pa, 0) → s.llbit = true →
      exec (.scW rd rj i) s = .refused .llscNotCached)

/-- 44_atomic_barrier.md R301: with LLbit 1, SC.W on CC memory (at the recorded address, where the parameter asks)
stores `x[rd]` as it was, then writes 1 into `rd`; LLbit becomes 0 where the parameter says so. -/
def Obligations.StoreConditionalSucceeds : Prop :=
  ∀ (rd rj : Reg) (i : BitVec 14) (s : State) (pa : Nat), MemoryCanonical s → s.llbit = true →
    dataAccess s .word (readReg s rj + (i ++ 0#2).signExtend 32) .store = .ok (pa, 1) →
    (s.cfg.scAddrCheck = true → pa = s.lladdr) →
    Ends (exec (.scW rd rj i) s) fun t =>
      (∃ g m st, t = { s with gpr := g, mem := m, stale := st, ccDirty := true,
                              llbit := !s.cfg.scClearsLlbit, pc := s.pc + 4 }) ∧
      (∀ r, readReg t r = if r = 0 then 0 else if r = rd then 1 else readReg s r) ∧
      BytesStored s.mem t.mem pa 4 (readReg s rd) ∧ StaleStored s.stale t.stale pa 4 1

/-- 44_atomic_barrier.md R301: SC.W that fails stores nothing and writes 0 into `rd`: with LLbit 0, its address unchecked
unless the parameter asks for the checks (92 D41), which then come first as those of a word store to CC memory do (on other
memory it is declined, the model's reading: notes/assumptions/21.md); and with LLbit 1 at another address than the recorded
one, where the parameter says that a core compares the two (93 U14). LLbit is then 0 where the parameter says that SC.W
clears it. -/
def Obligations.StoreConditionalFails : Prop :=
  ∀ (rd rj : Reg) (i : BitVec 14) (s : State),
    (s.llbit = false → s.cfg.scFailChecks = false → Ends (exec (.scW rd rj i) s) (RegisterEffect s rd 0)) ∧
    (s.llbit = false → s.cfg.scFailChecks = true →
      (∀ pa, dataAccess s .word (readReg s rj + (i ++ 0#2).signExtend 32) .store = .ok (pa, 1) →
        Ends (exec (.scW rd rj i) s) (RegisterEffect s rd 0)) ∧
      (∀ pa, dataAccess s .word (readReg s rj + (i ++ 0#2).signExtend 32) .store = .ok (pa, 0) →
        exec (.scW rd rj i) s = .refused .llscNotCached) ∧
      (∀ e, dataAccess s .word (readReg s rj + (i ++ 0#2).signExtend 32) .store = .raise e →
        exec (.scW rd rj i) s = .next (enter e s))) ∧
    (∀ pa, s.llbit = true → s.cfg.scAddrCheck = true → pa ≠ s.lladdr →
      dataAccess s .word (readReg s rj + (i ++ 0#2).signExtend 32) .store = .ok (pa, 1) →
      Ends (exec (.scW rd rj i) s) (RegisterEffect { s with llbit := !s.cfg.scClearsLlbit } rd 0))

/-- 60_exceptions.md R450, R445, 44_atomic_barrier.md R304, 20_memory.md R156, 10_state.md R61: what the environment does at
a boundary where an entry is listed: other agents' stores, then LLbit may be cleared, the lines take the entry's values, the
timer gets its ticks, and reset is asserted or not. A byte another agent stores where memory exists is in memory, LLbit is
cleared when it lies in the line of the recorded address and kept when it does not (the line is the model's:
notes/assumptions/14.md; so is that every agent is coherent, R163: notes/assumptions/26.md), and nothing else changes; where
no memory is, nothing changes (notes/assumptions/14.md). Where no entry is listed only a running timer ticks, a free number
of times (the model's form: notes/assumptions/6.md). An exception entry keeps LLbit, and ERTN clears it unless KLO is 1
(47_privileged.md R375). -/
def Obligations.LlbitCleared : Prop :=
  (∀ (s : State) (e : EnvEvent) (rest : List EnvEvent), s.env = e :: rest →
    resetAsserted s = e.reset ∧
    ∃ u, u = e.writes.foldl otherStore { s with env := rest } ∧
      environment s = { u with llbit := u.llbit && !e.clearLlbit, hwi := e.hwi, ipi := e.ipi,
                               timer := ticks s.cfg s.csr e.ticks s.timer }) ∧
  (∀ s : State, s.env = [] → resetAsserted s = false ∧
    environment s = if s.timer.running then
      { s with timer := ticks s.cfg s.csr (Config.freeCount s.draws) s.timer, draws := s.draws + 1 } else s) ∧
  ∀ (s t : State) (c : Host.Cell) (e : Exc), MemoryCanonical s →
    (physExists s.cfg c.1 = true →
      ∃ m l, otherStore s c = { s with mem := m, llbit := l } ∧ readByte m c.1 = c.2 ∧
        (∀ a, a ≠ c.1 → readByte m a = readByte s.mem a) ∧
        (c.1 / 2 ^ s.cfg.lineOffset = s.lladdr / 2 ^ s.cfg.lineOffset → l = false) ∧
        (c.1 / 2 ^ s.cfg.lineOffset ≠ s.lladdr / 2 ^ s.cfg.lineOffset → l = s.llbit)) ∧
    (physExists s.cfg c.1 = false → otherStore s c = s) ∧
    (enter e s).llbit = s.llbit ∧
    (crmdPlv s.csr = 0 → exec .ertn s = .next t → t.llbit = (s.llbit && bit 2 s.csr.llbctl))

/-- 43_load_store.md R292; 44_atomic_barrier.md R310, R311: PRELD and DBAR only advance; IBAR also clears need_ibar of
every byte whose need_wb is clear, and takes out of the `stale` record those left with no flag, and no other (R354). A
non-zero hint acts as 0, or is refused, as the parameter says. -/
def Obligations.PrefetchAndBarrierResult : Prop :=
  ∀ (h : BitVec 5) (rj : Reg) (i : BitVec 12) (hint : BitVec 15) (s : State),
    exec (.preld h rj i) s = .next { s with pc := s.pc + 4 } ∧
    (hint ≠ 0 → s.cfg.dbarHints = .refuse → exec (.dbar hint) s = .refused .barrierHint) ∧
    (hint ≠ 0 → s.cfg.ibarHints = .refuse → exec (.ibar hint) s = .refused .barrierHint) ∧
    (hint = 0 ∨ s.cfg.dbarHints = .asZero → exec (.dbar hint) s = .next { s with pc := s.pc + 4 }) ∧
    (hint = 0 ∨ s.cfg.ibarHints = .asZero →
      exec (.ibar hint) s = .next { s with stale := clearNeedIbar s.stale, pc := s.pc + 4 }) ∧
    (StaleOrdered s → ∀ a, lookupKey a (clearNeedIbar s.stale) =
      match lookupKey a s.stale with
      | none => none
      | some f =>
        if f.needWb = true then some f
        else if f.needInv = true then some { needWb := false, needInv := true, needIbar := false }
        else none)

/-- 20_memory.md R161, R162; 47_privileged.md R354: after a cached store of a word, the Hit write-back of the data cache, the
Hit invalidation of the instruction cache (both on the word's line) and IBAR, no byte of the word is in the
`stale` record, so none is stale for a fetch. -/
def Obligations.CodeStoreBecomesVisible : Prop :=
  ∀ (rj : Reg) (i : BitVec 12) (v : Word) (s a b c : State) (pa qa : Nat), StaleOrdered s → 2 ≤ s.cfg.lineOffset →
    pa % 4 = 0 → qa / 2 ^ s.cfg.lineOffset = pa / 2 ^ s.cfg.lineOffset →
    resolve s (readReg s rj + i.signExtend 32) .load = .ok (qa, 1) →
    exec (.cacop 0x11 rj i) (storeAt s pa 1 .word v) = .next a → exec (.cacop 0x10 rj i) a = .next b →
    exec (.ibar 0) b = .next c →
    ∀ (k : Nat) (mat : BitVec 2), k < 4 → lookupKey (pa + k) c.stale = none ∧ staleForFetch c mat (pa + k) = false

/-- 60_exceptions.md R401, R420 to R423: what taking an exception writes: PRMD from CRMD, PLV 0, IE 0, ERA, the codes in
ESTAT, BADV and TLBEHI.VPPN where the exception records an address, and direct mode for the TLB refill; where it goes; that
nothing else changes; and for each of the sixteen exceptions its codes, whether it records its address in BADV and whether
in TLBEHI.VPPN. -/
def Obligations.ExceptionEntryEffect : Prop :=
  ∀ (e : Exc) (s : State),
    (∃ c, enter e s = { s with csr := c, idle := false,
                               pc := (if isRefill e then s.csr.tlbrentry else s.csr.eentry) &&& 0xFFFFFFC0 } ∧
      c = { s.csr with crmd := c.crmd, prmd := c.prmd, era := s.pc, estat := c.estat, badv := c.badv,
                       tlbehi := c.tlbehi } ∧
      bits 0 2 c.prmd = bits 0 2 s.csr.crmd ∧ bits 2 1 c.prmd = bits 2 1 s.csr.crmd ∧
      bits 3 29 c.prmd = bits 3 29 s.csr.prmd ∧
      bits 0 2 c.crmd = 0 ∧ bits 2 1 c.crmd = 0 ∧ bits 5 27 c.crmd = bits 5 27 s.csr.crmd ∧
      bits 3 2 c.crmd = (if isRefill e then 1#2 else bits 3 2 s.csr.crmd) ∧
      bits 16 6 c.estat = ecodeOf e ∧ bits 22 9 c.estat = esubcodeOf e ∧ bits 0 16 c.estat = bits 0 16 s.csr.estat ∧
      bit 31 c.estat = bit 31 s.csr.estat ∧
      c.badv = (badAddress e).getD s.csr.badv ∧
      bits 13 19 c.tlbehi = ((tlbAddress e).map (bits 13 19)).getD (bits 13 19 s.csr.tlbehi) ∧
      bits 0 13 c.tlbehi = bits 0 13 s.csr.tlbehi) ∧
    (isRefill e = true ↔ ∃ va, e = .tlbr va) ∧
    ∀ va : Word,
      [Exc.int, .pil va, .pis va, .pif va, .pme va, .ppi va, .adef va, .adem va, .ale va, .sys, .brk, .ine, .ipe,
        .fpd, .fpe, .tlbr va].map (fun e => ((ecodeOf e).toNat, (esubcodeOf e).toNat, badAddress e, tlbAddress e))
      = [(0x0, 0, none, none), (0x1, 0, some va, some va), (0x2, 0, some va, some va), (0x3, 0, some va, some va),
         (0x4, 0, some va, some va), (0x7, 0, some va, some va), (0x8, 0, some va, none), (0x8, 1, some va, none),
         (0x9, 0, some va, none), (0xB, 0, none, none), (0xC, 0, none, none), (0xD, 0, none, none),
         (0xE, 0, none, none), (0xF, 0, none, none), (0x12, 0, none, none), (0x3F, 0, some va, some va)]

/-- 45_misc.md R320, R321: SYSCALL and BREAK take their exception, whatever the code and the level. -/
def Obligations.SyscallAndBreakTrap : Prop :=
  ∀ (code : BitVec 15) (s : State),
    exec (.syscallI code) s = .next (enter .sys s) ∧ exec (.breakI code) s = .next (enter .brk s)

/-- 47_privileged.md R343: at a level other than PLV0 every privileged instruction raises IPE and does nothing else;
an INVTLB of an op that does not exist raises INE there too, and a Hit CACOP is executed. -/
def Obligations.PrivilegedAtUserLevel : Prop :=
  ∀ (rd rj rk : Reg) (num : BitVec 14) (op code : BitVec 5) (si : BitVec 12) (level : BitVec 15) (s : State),
    crmdPlv s.csr ≠ 0 →
    (∀ i ∈ [Instr.csrrd rd num, .csrwr rd num, .csrxchg rd rj num, .tlbsrch, .tlbrd, .tlbwr, .tlbfill, .ertn,
        .idle level], exec i s = .next (enter .ipe s)) ∧
    (op ≤ 6 → exec (.invtlb op rj rk) s = .next (enter .ipe s)) ∧
    (6 < op → exec (.invtlb op rj rk) s = .next (enter .ine s)) ∧
    (code.extractLsb' 3 2 ≠ 2 → exec (.cacop code rj si) s = .next (enter .ipe s)) ∧
    ∀ pa mat, 16 ≤ code.toNat → code.toNat < 19 → resolve s (readReg s rj + si.signExtend 32) .load = .ok (pa, mat) →
      Ends (exec (.cacop code rj si) s) fun t =>
        t.pc = s.pc + 4 ∧ t.csr = s.csr ∧ t.gpr = s.gpr ∧ t.mem = s.mem ∧ t.tlb = s.tlb

/-- 47_privileged.md R375, 60_exceptions.md R430: at PLV0 ERTN restores PLV and IE from PRMD, leaves the refill's direct
mode when Ecode is 0x3F (92 D32), clears LLbit unless KLO, clears KLO (92 D31), and goes to ERA; it changes nothing else. A
PPLV of 1 or 2 is declined (93 U12; notes/assumptions/24.md). -/
def Obligations.ErtnEffect : Prop :=
  ∀ s : State, crmdPlv s.csr = 0 →
    (bits 0 2 s.csr.prmd = 1 ∨ bits 0 2 s.csr.prmd = 2 → exec .ertn s = .refused .privilegeLevelIllegal) ∧
    (bits 0 2 s.csr.prmd = 0 ∨ bits 0 2 s.csr.prmd = 3 →
      ∃ w l, exec .ertn s = .next { s with csr := { s.csr with crmd := w, llbctl := l }, pc := s.csr.era,
                                           llbit := s.llbit && bit 2 s.csr.llbctl } ∧
        bits 0 2 w = bits 0 2 s.csr.prmd ∧ bits 2 1 w = bits 2 1 s.csr.prmd ∧ bits 5 27 w = bits 5 27 s.csr.crmd ∧
        bits 3 2 w = (if bits 16 6 s.csr.estat = 0x3F then 2#2 else bits 3 2 s.csr.crmd) ∧
        bit 2 l = false ∧ bits 0 2 l = bits 0 2 s.csr.llbctl ∧ bits 3 29 l = bits 3 29 s.csr.llbctl)

/-- 60_exceptions.md R420, R430: a handler that returns at once comes back to the interrupted instruction with CRMD as it
was, PLV, IE and the translation mode among it (the refill's return sets the mapped mode, from which it came). -/
def Obligations.EntryThenErtnRestores : Prop :=
  ∀ (e : Exc) (s : State), LevelLegal s → (isRefill e = true → crmdDa s.csr = false ∧ crmdPg s.csr = true) →
    Ends (exec .ertn (enter e s)) fun t =>
      t.pc = s.pc ∧ t.csr.crmd = s.csr.crmd ∧ t.gpr = s.gpr ∧ t.mem = s.mem ∧ t.tlb = s.tlb

/-- 47_privileged.md R380, 60_exceptions.md R450: at PLV0 IDLE advances the PC and waits. A waiting core starts no
instruction while no interrupt is pending and locally enabled; once one is, it goes on, and takes the interrupt only if
CRMD.IE is 1. -/
def Obligations.IdleWaitsAndWakes : Prop :=
  (∀ (level : BitVec 15) (s : State), crmdPlv s.csr = 0 →
    exec (.idle level) s = .next { s with pc := s.pc + 4, idle := true }) ∧
  ∀ (s : State), s.idle = true → resetAsserted s = false → crmdDa s.csr ≠ crmdPg s.csr →
    (intVector (environment s) = false → step s = .next (environment s)) ∧
    (intVector (environment s) = true → crmdIe s.csr = false →
      step s = runInstr { environment s with idle := false }) ∧
    (intVector (environment s) = true → crmdIe s.csr = true → s.cfg.intLatency = .immediate →
      step s = .next (enter .int (environment s)))

/-- 60_exceptions.md R411, R413, 10_state.md R36: the twelve interrupt sources, each with its bit of ECFG.LIE: the vector
(which IDLE waits for) holds one, and with CRMD.IE an interrupt is pending. -/
def Obligations.InterruptSources : Prop :=
  ∀ s : State,
    (intPending s = true ↔ bit 2 s.csr.crmd = true ∧ intVector s = true) ∧
    (intVector s = true ↔
      (bit 0 s.csr.estat = true ∧ bit 0 s.csr.ecfg = true) ∨ (bit 1 s.csr.estat = true ∧ bit 1 s.csr.ecfg = true) ∨
        (∃ k, k < 8 ∧ s.hwi.getLsbD k = true ∧ bit (k + 2) s.csr.ecfg = true) ∨
        (s.timer.pending = true ∧ bit 11 s.csr.ecfg = true) ∨ (s.ipi = true ∧ bit 12 s.csr.ecfg = true))

/-- 60_exceptions.md R410, R412: an interrupt pending and enabled where the core takes it at once is taken before the
fetch, whatever the PC holds; where the core may take it later, a choice decides (a free one, the model's:
notes/assumptions/9.md), and otherwise the instruction runs. -/
def Obligations.InterruptIsTaken : Prop :=
  ∀ s : State, s.env = [] → s.timer.running = false → crmdDa s.csr ≠ crmdPg s.csr → s.idle = false →
    intPending s = true →
    (s.cfg.intLatency = .immediate → step s = .next (enter .int s)) ∧
    (s.cfg.intLatency = .any →
      step s = if Config.freeChoice s.draws then .next (enter .int { s with draws := s.draws + 1 })
               else runInstr { s with draws := s.draws + 1 })

/-- 10_state.md R31, R57: the numbers of the CSRs, and that no other number is one. -/
def Obligations.CsrNumbers : Prop :=
  ∀ n : BitVec 14,
    (csrOf n = none ↔
      n.toNat ∉ [0x0, 0x1, 0x2, 0x4, 0x5, 0x6, 0x7, 0xC, 0x10, 0x11, 0x12, 0x13, 0x18, 0x19, 0x1A, 0x1B, 0x20, 0x30,
        0x31, 0x32, 0x33, 0x40, 0x41, 0x42, 0x44, 0x60, 0x88, 0x98, 0x180, 0x181]) ∧
    csrOf 0x0 = some .crmd ∧ csrOf 0x1 = some .prmd ∧ csrOf 0x2 = some .euen ∧ csrOf 0x4 = some .ecfg ∧
    csrOf 0x5 = some .estat ∧ csrOf 0x6 = some .era ∧ csrOf 0x7 = some .badv ∧ csrOf 0xC = some .eentry ∧
    csrOf 0x10 = some .tlbidx ∧ csrOf 0x11 = some .tlbehi ∧ csrOf 0x12 = some .tlbelo0 ∧ csrOf 0x13 = some .tlbelo1 ∧
    csrOf 0x18 = some .asid ∧ csrOf 0x19 = some .pgdl ∧ csrOf 0x1A = some .pgdh ∧ csrOf 0x1B = some .pgd ∧
    csrOf 0x20 = some .cpuid ∧ csrOf 0x30 = some .save0 ∧ csrOf 0x31 = some .save1 ∧ csrOf 0x32 = some .save2 ∧
    csrOf 0x33 = some .save3 ∧ csrOf 0x40 = some .tid ∧ csrOf 0x41 = some .tcfg ∧ csrOf 0x42 = some .tval ∧
    csrOf 0x44 = some .ticlr ∧ csrOf 0x60 = some .llbctl ∧ csrOf 0x88 = some .tlbrentry ∧ csrOf 0x98 = some .ctag ∧
    csrOf 0x180 = some .dmw0 ∧ csrOf 0x181 = some .dmw1

/-- 10_state.md R30, R32 to R56; 47_privileged.md R344: what each CSR reads as. The whole word of ESTAT, ASID, LLBCTL, CPUID
and TICLR, with what the hardware supplies (IS, ASIDBITS, ROLLB) and every reserved or write-1 bit 0; in a state whose
reserved bits are 0, what software stored, PGD and TVAL. And the positions of the fields that the statements name. -/
def Obligations.CsrReadValues : Prop :=
  (∀ s : State,
    csrValue s .estat = 0#1 ++ bits 16 15 s.csr.estat ++ 0#3 ++ BitVec.ofBool s.ipi ++ BitVec.ofBool s.timer.pending ++
      0#1 ++ s.hwi ++ bits 0 2 s.csr.estat ∧
    csrValue s .asid = 0#8 ++ 10#8 ++ 0#6 ++ bits 0 10 s.csr.asid ∧
    csrValue s .llbctl = 0#29 ++ BitVec.ofBool (bit 2 s.csr.llbctl) ++ 0#1 ++ BitVec.ofBool s.llbit ∧
    csrValue s .cpuid = 0#23 ++ s.cfg.coreId ∧ csrValue s .ticlr = 0) ∧
  (∀ s : State, ReservedZero s → s.cfg.timerBits ≤ 32 →
    (∀ n ∈ [CsrName.crmd, .prmd, .euen, .ecfg, .era, .badv, .eentry, .tlbidx, .tlbehi, .tlbelo0, .tlbelo1, .pgdl,
        .pgdh, .save0, .save1, .save2, .save3, .tid, .tcfg, .tlbrentry, .dmw0, .dmw1],
      csrValue s n = stored s.csr n) ∧
    csrValue s .pgd = (if bit 31 s.csr.badv then s.csr.pgdh else s.csr.pgdl) ∧
    (csrValue s .tval).toNat = s.timer.count.toNat % 2 ^ s.cfg.timerBits) ∧
  ∀ c : Csrs,
    crmdPlv c = bits 0 2 c.crmd ∧ crmdIe c = bit 2 c.crmd ∧ crmdDa c = bit 3 c.crmd ∧ crmdPg c = bit 4 c.crmd ∧
    crmdDatf c = bits 5 2 c.crmd ∧ crmdDatm c = bits 7 2 c.crmd ∧ euenFpuen c = bit 0 c.euen ∧
    estatEcode c = bits 16 6 c.estat ∧ asidAsid c = bits 0 10 c.asid ∧ tcfgEn c = bit 0 c.tcfg ∧
    llbctlKlo c = bit 2 c.llbctl

/-- 47_privileged.md R340, R344: at PLV0 CSRRD puts the value of the register into `rd`; where the value is not given
(CTAG, TVAL after a one-shot count has expired, a number that is no CSR's: R55, R445, R57) it is a free one (in the
model's form: notes/assumptions/7.md, 13.md). -/
def Obligations.CsrReadResult : Prop :=
  ∀ (rd : Reg) (num : BitVec 14) (s : State), crmdPlv s.csr = 0 →
    (∀ c, csrOf num = some c → c ≠ .ctag → (c = .tval → s.timer.expired = false) →
      Ends (exec (.csrrd rd num) s) (RegisterEffect s rd (csrValue s c))) ∧
    (csrOf num = some .tval → s.timer.expired = true →
      Ends (exec (.csrrd rd num) s)
        (RegisterEffect { s with draws := s.draws + 1 } rd (Config.freeWord s.draws &&& lowMask s.cfg.timerBits))) ∧
    (csrOf num = none ∨ csrOf num = some .ctag →
      Ends (exec (.csrrd rd num) s)
        (RegisterEffect { s with draws := s.draws + 1 } rd (Config.freeWord s.draws)))

/-- 10_state.md R32 to R56: the bits of class RW of every CSR (TLBIDX.Index of the least n bits that number the TLB entries,
PPN up to bit PALEN - 5, TCFG of TIMER_BITS bits). 47_privileged.md R341, R342, R344: at PLV0 CSRWR and CSRXCHG (mask
`x[rj]`, not 0) of a register whose write has no further effect change those bits under the mask, put the old value into
`rd`, and change nothing else. -/
def Obligations.CsrWriteResult : Prop :=
  (∀ s : State,
    [CsrName.crmd, .prmd, .euen, .ecfg, .estat, .era, .badv, .eentry, .tlbehi, .asid, .pgdl, .pgdh, .pgd, .cpuid,
      .save0, .save1, .save2, .save3, .tid, .tval, .ticlr, .llbctl, .tlbrentry, .ctag, .dmw0, .dmw1].map (rwMask s)
    = [0x1FF, 0x7, 0x1, 0x1BFF, 0x3, 0xFFFFFFFF, 0xFFFFFFFF, 0xFFFFFFC0, 0xFFFFE000, 0x3FF, 0xFFFFF000, 0xFFFFF000,
       0, 0, 0xFFFFFFFF, 0xFFFFFFFF, 0xFFFFFFFF, 0xFFFFFFFF, 0xFFFFFFFF, 0, 0, 0x4, 0xFFFFFFC0, 0, 0xEE000039,
       0xEE000039] ∧
    ∀ i, i < 32 →
      (∀ n, s.tlb.length ≤ 2 ^ n → (∀ m, m < n → 2 ^ m < s.tlb.length) →
        (bit i (rwMask s .tlbidx) = true ↔ i < n ∨ (24 ≤ i ∧ i ≤ 29) ∨ i = 31)) ∧
      (bit i (rwMask s .tlbelo0) = true ↔ i ≤ 6 ∨ (8 ≤ i ∧ i + 5 ≤ s.cfg.palen)) ∧
      (bit i (rwMask s .tlbelo1) = true ↔ i ≤ 6 ∨ (8 ≤ i ∧ i + 5 ≤ s.cfg.palen)) ∧
      (bit i (rwMask s .tcfg) = true ↔ i < s.cfg.timerBits)) ∧
  ∀ (rd rj : Reg) (num : BitVec 14) (c : CsrName) (s : State), crmdPlv s.csr = 0 → csrOf num = some c →
    c ∉ [CsrName.crmd, .tcfg, .ticlr, .llbctl, .ctag, .tval] →
    Ends (exec (.csrwr rd num) s) (fun t =>
      (∃ d g, t = { s with csr := d, gpr := g, pc := s.pc + 4 }) ∧
      (∀ q, stored t.csr q
        = if q = c then (stored s.csr c &&& ~~~rwMask s c) ||| (readReg s rd &&& rwMask s c) else stored s.csr q) ∧
      ∀ r, readReg t r = if r = 0 then 0 else if r = rd then csrValue s c else readReg s r) ∧
    (readReg s rj ≠ 0 → Ends (exec (.csrxchg rd rj num) s) fun t =>
      (∃ d g, t = { s with csr := d, gpr := g, pc := s.pc + 4 }) ∧
      (∀ q, stored t.csr q
        = if q = c then
            (stored s.csr c &&& ~~~(rwMask s c &&& readReg s rj)) ||| (readReg s rd &&& (rwMask s c &&& readReg s rj))
          else stored s.csr q) ∧
      ∀ r, readReg t r = if r = 0 then 0 else if r = rd then csrValue s c else readReg s r)

/-- 10_state.md R32, R50, R52, R53; 47_privileged.md R341, R342, R344; 60_exceptions.md R445: at PLV0 a CSRWR (mask all
ones) or a CSRXCHG (mask `x[rj]`, not 0) of TCFG stores its bits under the mask, then loads and starts or stops the timer
(whichever bits the mask covers, the model's reading: notes/assumptions/13.md); of TICLR with bit 0 written 1 clears the
timer interrupt; of LLBCTL with bit 1 written 1 clears LLbit; of CRMD is declined where it would leave PLV 1 or 2 (93 U12)
and stores its bits under the mask otherwise. The old value goes into `rd`. The count loaded is `{InitVal, 2'b0}`: TCFG's
bits from 2 up to TIMER_BITS, the low two zero. -/
def Obligations.CsrWriteSideEffects : Prop :=
  (∀ (cfg : Config.Params) (c : Csrs) (i : Nat), i < 32 →
    (bit i (timerStart cfg c) = true ↔ 2 ≤ i ∧ i < cfg.timerBits ∧ bit i c.tcfg = true)) ∧
  ∀ (rd rj : Reg) (s : State) (swap : BitVec 14 → Instr) (m : Word), crmdPlv s.csr = 0 →
    (swap = .csrwr rd ∧ m = 0xFFFFFFFF) ∨ (swap = .csrxchg rd rj ∧ m = readReg s rj ∧ m ≠ 0) →
    Ends (exec (swap 0x41) s) (fun t =>
      (∃ g, t = { s with csr := t.csr, timer := t.timer, gpr := g, pc := s.pc + 4 }) ∧
      t.csr = { s.csr with
        tcfg := (s.csr.tcfg &&& ~~~(lowMask s.cfg.timerBits &&& m)) |||
          (readReg s rd &&& (lowMask s.cfg.timerBits &&& m)) } ∧
      t.timer = (if tcfgEn t.csr then
          { s.timer with count := timerStart s.cfg t.csr, running := true, expired := false }
        else { s.timer with running := false }) ∧
      ∀ r, readReg t r = if r = 0 then 0 else if r = rd then csrValue s .tcfg else readReg s r) ∧
    Ends (exec (swap 0x44) s)
      (RegisterEffect
        { s with timer := { s.timer with pending := s.timer.pending && !(bit 0 (readReg s rd) && bit 0 m) } } rd 0) ∧
    Ends (exec (swap 0x60) s) (fun t =>
      (∃ g, t = { s with csr := t.csr, llbit := s.llbit && !(bit 1 (readReg s rd) && bit 1 m), gpr := g,
                         pc := s.pc + 4 }) ∧
      t.csr = { s.csr with llbctl := (s.csr.llbctl &&& ~~~(4#32 &&& m)) ||| (readReg s rd &&& (4#32 &&& m)) } ∧
      ∀ r, readReg t r = if r = 0 then 0 else if r = rd then csrValue s .llbctl else readReg s r) ∧
    ∀ w : Word, w = (s.csr.crmd &&& ~~~(0x1FF#32 &&& m)) ||| (readReg s rd &&& (0x1FF#32 &&& m)) →
      (bits 0 2 w = 1 ∨ bits 0 2 w = 2 → exec (swap 0x0) s = .refused .privilegeLevelIllegal) ∧
      (bits 0 2 w = 0 ∨ bits 0 2 w = 3 →
        Ends (exec (swap 0x0) s) fun t =>
          (∃ g, t = { s with csr := { s.csr with crmd := w }, gpr := g, pc := s.pc + 4 }) ∧
          ∀ r, readReg t r = if r = 0 then 0 else if r = rd then csrValue s .crmd else readReg s r)

/-- 47_privileged.md R342, R344, 10_state.md R51, R55, R57: at PLV0 CSRXCHG with a mask of 0 only reads (the model's
reading of the side effects: notes/assumptions/16.md); a write of TVAL, of CTAG or of a number that is no CSR's, by CSRWR or
CSRXCHG, writes nothing, and the old value in `rd` is a free one where the read is (the model's form:
notes/assumptions/7.md, 13.md). -/
def Obligations.CsrWriteOfNothing : Prop :=
  ∀ (rd rj : Reg) (num : BitVec 14) (c : CsrName) (s : State), crmdPlv s.csr = 0 →
    (csrOf num = some c → c ≠ .ctag → (c = .tval → s.timer.expired = false) → readReg s rj = 0 →
      Ends (exec (.csrxchg rd rj num) s) (RegisterEffect s rd (csrValue s c))) ∧
    ∀ i ∈ [Instr.csrwr rd num, .csrxchg rd rj num],
      (csrOf num = some .tval → s.timer.expired = false →
        Ends (exec i s) (RegisterEffect s rd (csrValue s .tval))) ∧
      (csrOf num = some .tval → s.timer.expired = true →
        Ends (exec i s)
          (RegisterEffect { s with draws := s.draws + 1 } rd (Config.freeWord s.draws &&& lowMask s.cfg.timerBits))) ∧
      (csrOf num = none ∨ csrOf num = some .ctag →
        Ends (exec i s) (RegisterEffect { s with draws := s.draws + 1 } rd (Config.freeWord s.draws)))

/-- 47_privileged.md R360: at PLV0 TLBSRCH looks `{TLBEHI.VPPN, 13'b0}` up under ASID: found at index n, NE becomes 0 and
Index n; not found, NE becomes 1 and the rest of TLBIDX stays; found twice, a fault (R128). An entry of the address space
with a page size that is not legal is declined (R129; before any match, the model's reading: notes/assumptions/12.md). -/
def Obligations.TlbSearchResult : Prop :=
  ∀ (s : State), crmdPlv s.csr = 0 →
    ((∃ e ∈ s.tlb, inSpace (asidAsid s.csr) e = true ∧ legalPs s.cfg e.ps = false) →
      exec .tlbsrch s = .refused .pageSizeIllegal) ∧
    ((∀ e ∈ s.tlb, inSpace (asidAsid s.csr) e = true → legalPs s.cfg e.ps = true) →
      (∀ (m n : Nat) (e f : TlbEntry), m ≠ n → s.tlb[m]? = some e → s.tlb[n]? = some f →
        inSpace (asidAsid s.csr) e = true → vppnMatches e (bits 13 19 s.csr.tlbehi ++ 0#13) = true →
        inSpace (asidAsid s.csr) f = true → vppnMatches f (bits 13 19 s.csr.tlbehi ++ 0#13) = true →
        exec .tlbsrch s = .fault .tlbMultipleHit) ∧
      ((∀ e ∈ s.tlb, inSpace (asidAsid s.csr) e = true → vppnMatches e (bits 13 19 s.csr.tlbehi ++ 0#13) = false) →
        ∃ w, exec .tlbsrch s = .next { s with csr := { s.csr with tlbidx := w }, pc := s.pc + 4 } ∧
          bit 31 w = true ∧ bits 0 31 w = bits 0 31 s.csr.tlbidx) ∧
      (∀ (n : Nat) (e : TlbEntry), s.tlb[n]? = some e → inSpace (asidAsid s.csr) e = true →
        vppnMatches e (bits 13 19 s.csr.tlbehi ++ 0#13) = true →
        (∀ (m : Nat) (f : TlbEntry), s.tlb[m]? = some f → inSpace (asidAsid s.csr) f = true →
          vppnMatches f (bits 13 19 s.csr.tlbehi ++ 0#13) = true → m = n) →
        s.tlb.length ≤ 2 ^ 16 →
        ∃ w, exec .tlbsrch s = .next { s with csr := { s.csr with tlbidx := w }, pc := s.pc + 4 } ∧
          bit 31 w = false ∧ w.toNat % 2 ^ tlbIdxBits s = n ∧ bits 16 15 w = bits 16 15 s.csr.tlbidx))

/-- 47_privileged.md R361: at PLV0 TLBRD of a non-empty entry unpacks it into TLBEHI, TLBELO0/1, TLBIDX.PS and ASID with
NE 0; of an empty one clears them with NE 1; an index that is no entry's is declined (93 U9). -/
def Obligations.TlbReadResult : Prop :=
  ∀ (s : State), crmdPlv s.csr = 0 →
    (s.tlb[tlbidxIndex s]? = none → exec .tlbrd s = .refused .tlbIndexOutOfRange) ∧
    (∀ e, s.tlb[tlbidxIndex s]? = some e →
      ∃ c, exec .tlbrd s = .next { s with csr := c, pc := s.pc + 4 } ∧
        c = { s.csr with tlbidx := c.tlbidx, tlbehi := c.tlbehi, tlbelo0 := c.tlbelo0, tlbelo1 := c.tlbelo1,
                         asid := c.asid } ∧
        bits 0 24 c.tlbidx = bits 0 24 s.csr.tlbidx ∧ bit 31 c.tlbidx = !e.e ∧
        (e.e = false → c.tlbehi = 0 ∧ c.tlbelo0 = 0 ∧ c.tlbelo1 = 0 ∧ bits 24 6 c.tlbidx = 0 ∧ bits 0 10 c.asid = 0) ∧
        (e.e = true → bits 24 6 c.tlbidx = e.ps ∧ bits 13 19 c.tlbehi = e.vppn ∧ bits 0 10 c.asid = e.asid ∧
          (bit 0 c.tlbelo0 = e.page0.v ∧ bit 1 c.tlbelo0 = e.page0.d ∧ bits 2 2 c.tlbelo0 = e.page0.plv ∧
            bits 4 2 c.tlbelo0 = e.page0.mat ∧ bit 6 c.tlbelo0 = e.g) ∧
          (bit 0 c.tlbelo1 = e.page1.v ∧ bit 1 c.tlbelo1 = e.page1.d ∧ bits 2 2 c.tlbelo1 = e.page1.plv ∧
            bits 4 2 c.tlbelo1 = e.page1.mat ∧ bit 6 c.tlbelo1 = e.g) ∧
          (s.cfg.palen = 32 → bits 8 20 c.tlbelo0 = e.page0.ppn.setWidth 20 ∧
            bits 8 20 c.tlbelo1 = e.page1.ppn.setWidth 20)))

/-- 47_privileged.md R362 to R364, 10_state.md R40: at PLV0 TLBWR writes the entry of the CSRs at TLBIDX.Index (the low n
bits, the least n that number the entries), TLBFILL at a free index: E is 1 while a refill is handled, else the inverse of
NE; G is the AND of the two G bits. An entry with E = 1 and a page size that is not legal is declined (93 U24), and TLBWR at
an index that is no entry's (93 U9). -/
def Obligations.TlbWriteResult : Prop :=
  (∀ (s : State) (n : Nat), s.tlb.length ≤ 2 ^ n → (∀ m, m < n → 2 ^ m < s.tlb.length) →
    tlbIdxBits s = n ∧ tlbidxIndex s = s.csr.tlbidx.toNat % 2 ^ n) ∧
  ∀ (s : State), crmdPlv s.csr = 0 →
    (s.tlb.length ≤ tlbidxIndex s → exec .tlbwr s = .refused .tlbIndexOutOfRange) ∧
    ((bits 16 6 s.csr.estat = 0x3F ∨ bit 31 s.csr.tlbidx = false) → bits 24 6 s.csr.tlbidx ≠ 12 →
      bits 24 6 s.csr.tlbidx ≠ s.cfg.psLarge →
      (tlbidxIndex s < s.tlb.length → exec .tlbwr s = .refused .pageSizeIllegal) ∧
      exec .tlbfill s = .refused .pageSizeIllegal) ∧
    ((bits 16 6 s.csr.estat = 0x3F ∨ bit 31 s.csr.tlbidx = false →
        bits 24 6 s.csr.tlbidx = 12 ∨ bits 24 6 s.csr.tlbidx = s.cfg.psLarge) →
      ∃ e : TlbEntry,
        e.e = (bits 16 6 s.csr.estat == 0x3F || !bit 31 s.csr.tlbidx) ∧ e.asid = bits 0 10 s.csr.asid ∧
        e.g = (bit 6 s.csr.tlbelo0 && bit 6 s.csr.tlbelo1) ∧ e.ps = bits 24 6 s.csr.tlbidx ∧
        e.vppn = bits 13 19 s.csr.tlbehi ∧
        (e.page0.v = bit 0 s.csr.tlbelo0 ∧ e.page0.d = bit 1 s.csr.tlbelo0 ∧ e.page0.plv = bits 2 2 s.csr.tlbelo0 ∧
          e.page0.mat = bits 4 2 s.csr.tlbelo0 ∧
          (s.cfg.palen = 32 → e.page0.ppn = (bits 8 20 s.csr.tlbelo0).setWidth 24)) ∧
        (e.page1.v = bit 0 s.csr.tlbelo1 ∧ e.page1.d = bit 1 s.csr.tlbelo1 ∧ e.page1.plv = bits 2 2 s.csr.tlbelo1 ∧
          e.page1.mat = bits 4 2 s.csr.tlbelo1 ∧
          (s.cfg.palen = 32 → e.page1.ppn = (bits 8 20 s.csr.tlbelo1).setWidth 24)) ∧
        (tlbidxIndex s < s.tlb.length →
          exec .tlbwr s = .next { s with tlb := s.tlb.set (tlbidxIndex s) e, pc := s.pc + 4 }) ∧
        (0 < s.tlb.length → ∃ k, k < s.tlb.length ∧
          exec .tlbfill s = .next { s with tlb := s.tlb.set k e, draws := s.draws + 1, pc := s.pc + 4 }))

/-- 47_privileged.md R361, R362, R364: a valid entry written by TLBWR is read back by TLBRD as the CSRs gave it. -/
def Obligations.TlbReadsBackWhatWasWritten : Prop :=
  ∀ s t : State, crmdPlv s.csr = 0 → ReservedZero s → s.cfg.palen ≤ 36 → 12 ≤ s.cfg.palen →
    bit 31 s.csr.tlbidx = false → bit 6 s.csr.tlbelo0 = bit 6 s.csr.tlbelo1 → exec .tlbwr s = .next t →
    Ends (exec .tlbrd t) fun u => u.csr = s.csr ∧ u.tlb = t.tlb ∧ u.gpr = s.gpr ∧ u.mem = s.mem

/-- 47_privileged.md R365: an INVTLB of op 7 to 31 raises INE, whatever the registers and the level (R343). At PLV0 ops 4 to
6 are declined where bits [31:10] of the ASID register are not 0 (92 D26); ops 5 and 6 then where a non-empty entry of the
ASIDs they compare has a page size that is not legal (R129, the model's reading: notes/assumptions/12.md); else INVTLB clears
E in the entries its op selects and changes nothing else. -/
def Obligations.InvtlbResult : Prop :=
  ∀ (op : BitVec 5) (rj rk : Reg) (s : State),
    (6 < op → exec (.invtlb op rj rk) s = .next (enter .ine s)) ∧
    (crmdPlv s.csr = 0 →
      (4 ≤ op → op ≤ 6 → 1024 ≤ (readReg s rj).toNat → exec (.invtlb op rj rk) s = .refused .invtlbAsidBits) ∧
      ((readReg s rj).toNat < 1024 →
        (∃ e ∈ s.tlb, e.e = true ∧ legalPs s.cfg e.ps = false ∧
          ((op = 5 ∧ e.g = false ∧ e.asid = bits 0 10 (readReg s rj)) ∨
            (op = 6 ∧ (e.g = true ∨ e.asid = bits 0 10 (readReg s rj))))) →
        exec (.invtlb op rj rk) s = .refused .pageSizeIllegal) ∧
      (op ≤ 6 → (4 ≤ op → (readReg s rj).toNat < 1024) →
        (∀ e ∈ s.tlb, e.e = true →
          (op = 5 ∧ e.g = false ∧ e.asid = bits 0 10 (readReg s rj)) ∨
            (op = 6 ∧ (e.g = true ∨ e.asid = bits 0 10 (readReg s rj))) → legalPs s.cfg e.ps = true) →
        ∀ p : TlbEntry → Bool,
          (∀ e, p e = match op.toNat with
            | 0 => true
            | 1 => true
            | 2 => e.g
            | 3 => !e.g
            | 4 => !e.g && e.asid == bits 0 10 (readReg s rj)
            | 5 => !e.g && e.asid == bits 0 10 (readReg s rj) && vppnMatches e (readReg s rk)
            | _ => (e.g || e.asid == bits 0 10 (readReg s rj)) && vppnMatches e (readReg s rk)) →
          exec (.invtlb op rj rk) s
            = .next { s with tlb := s.tlb.map fun e => { e with e := e.e && !p e }, pc := s.pc + 4 }))

/-- 47_privileged.md R351 to R354: Store Tag (before any cached store, or on the instruction cache) and Index Invalidate
at PLV0 only advance; a Hit operation, at either level, translates its address as a load and updates the `stale`
record of that line: need_inv cleared where need_wb is clear, need_wb cleared for CC, every other flag and byte kept; the
codes with no operation or no cache are declined at PLV0, the Hit codes with no cache at either level. -/
def Obligations.CacopResult : Prop :=
  ∀ (code : BitVec 5) (rj : Reg) (i : BitVec 12) (s : State) (pa : Nat) (mat : BitVec 2),
    (crmdPlv s.csr = 0 → code.toNat < 3 → s.ccDirty = false ∨ code = 0 →
      exec (.cacop code rj i) s = .next { s with pc := s.pc + 4 }) ∧
    (crmdPlv s.csr = 0 → 8 ≤ code.toNat → code.toNat < 11 →
      exec (.cacop code rj i) s = .next { s with pc := s.pc + 4 }) ∧
    (resolve s (readReg s rj + i.signExtend 32) .load = .ok (pa, mat) →
      exec (.cacop 16 rj i) s = .next { s with stale := clearNeedInv s.cfg pa s.stale, pc := s.pc + 4 } ∧
      exec (.cacop 17 rj i) s
        = .next { s with stale := if mat = 1 then clearNeedWb s.cfg pa s.stale else s.stale, pc := s.pc + 4 } ∧
      exec (.cacop 18 rj i) s = .next { s with pc := s.pc + 4 }) ∧
    (∀ e, resolve s (readReg s rj + i.signExtend 32) .load = .raise e → 16 ≤ code.toNat → code.toNat < 19 →
      exec (.cacop code rj i) s = .next (enter e s)) ∧
    (crmdPlv s.csr = 0 → 3 ≤ code.toNat % 8 ∨ 24 ≤ code.toNat →
      exec (.cacop code rj i) s = .refused .cacopUndefined) ∧
    (16 ≤ code.toNat → code.toNat < 24 → 3 ≤ code.toNat % 8 → exec (.cacop code rj i) s = .refused .cacopUndefined) ∧
    (crmdPlv s.csr = 0 → s.ccDirty = true → code = 1 ∨ code = 2 →
      exec (.cacop code rj i) s = .refused .storeTagMayDiscard) ∧
    ∀ a,
      lookupKey a (clearNeedInv s.cfg pa s.stale) = (lookupKey a s.stale).map (fun f =>
        if a / 2 ^ s.cfg.lineOffset = pa / 2 ^ s.cfg.lineOffset ∧ f.needWb = false then { f with needInv := false }
        else f) ∧
      lookupKey a (clearNeedWb s.cfg pa s.stale) = (lookupKey a s.stale).map (fun f =>
        if a / 2 ^ s.cfg.lineOffset = pa / 2 ^ s.cfg.lineOffset then { f with needWb := false } else f)

/-- 46_float.md R330: every floating-point word raises INE in a core without a unit, FPD with the unit disabled, and is
declined with the unit enabled, whose arithmetic the specification does not give. R330 gives these words no other effect:
the two entries are the whole of what they do. -/
def Obligations.FloatWordResult : Prop :=
  ∀ (i : Instr) (s : State), i.isFloat = true →
    (s.cfg.hasFpu = false → exec i s = .next (enter .ine s)) ∧
    (s.cfg.hasFpu = true → bit 0 s.csr.euen = false → exec i s = .next (enter .fpd s)) ∧
    (s.cfg.hasFpu = true → bit 0 s.csr.euen = true → exec i s = .refused .floatingPoint)

/-- 45_misc.md R322 to R324, 10_state.md R59: a read of the Counter gives one half of a value not below the last one read
and keeps that value (the model's way to hold the Counter: notes/assumptions/8.md); RDCNTID reads TID. All at either
level. -/
def Obligations.CounterReadResult : Prop :=
  ∀ (rd : Reg) (s : State),
    (∃ c : BitVec 64, s.counter.toNat ≤ c.toNat ∧
      Ends (exec (.rdcntvlW rd) s)
        (RegisterEffect { s with counter := c, draws := s.draws + 1 } rd (c.extractLsb' 0 32)) ∧
      Ends (exec (.rdcntvhW rd) s)
        (RegisterEffect { s with counter := c, draws := s.draws + 1 } rd (c.extractLsb' 32 32))) ∧
    Ends (exec (.rdcntid rd) s) (RegisterEffect s rd s.csr.tid)

/-- 60_exceptions.md R445: a running one-shot timer counts down, raises TI at zero and stops there; a periodic one is at
its start value `{InitVal, 2'b0}` after as many ticks as it had left, TI raised and running; one that holds 0 raises TI and
takes its start value at the next tick, and loaded with 0 it stays at 0, raising TI; a stopped one stands. -/
def Obligations.TimerTicks : Prop :=
  ∀ (cfg : Config.Params) (c : Csrs) (t : Timer) (n : Nat),
    (t.running = false → ticks cfg c n t = t) ∧
    (t.running = true → n < t.count.toNat →
      ticks cfg c n t = { t with count := t.count - BitVec.ofNat 32 n }) ∧
    (t.running = true → bit 1 c.tcfg = false → 0 < n → t.count.toNat ≤ n →
      ticks cfg c n t = { count := 0, running := false, expired := true, pending := true }) ∧
    (t.running = true → bit 1 c.tcfg = true → 0 < t.count.toNat →
      ticks cfg c t.count.toNat t = { t with count := timerStart cfg c, pending := true }) ∧
    (t.running = true → bit 1 c.tcfg = true → t.count = 0 →
      ticks cfg c 1 t = { t with count := timerStart cfg c, pending := true }) ∧
    (t.running = true → bit 1 c.tcfg = true → t.count = 0 → timerStart cfg c = 0 → 0 < n →
      ticks cfg c n t = { t with pending := true })

/-- 10_state.md R65, R66, 70_reset_and_hazards.md R460, R461: what the specification gives the machine after reset. -/
def Obligations.ResetValues : Prop :=
  State.reset.pc = 0x1C000000 ∧ crmdPlv State.reset.csr = 0 ∧ crmdIe State.reset.csr = false ∧
  crmdDa State.reset.csr = true ∧ crmdPg State.reset.csr = false ∧ crmdDatf State.reset.csr = 0 ∧
  crmdDatm State.reset.csr = 0 ∧ euenFpuen State.reset.csr = false ∧ bits 0 13 State.reset.csr.ecfg = 0 ∧
  bits 0 2 State.reset.csr.estat = 0 ∧ tcfgEn State.reset.csr = false ∧ State.reset.timer.running = false ∧
  llbctlKlo State.reset.csr = false ∧ bit 0 State.reset.csr.dmw0 = false ∧ bit 3 State.reset.csr.dmw0 = false ∧
  bit 0 State.reset.csr.dmw1 = false ∧ bit 3 State.reset.csr.dmw1 = false ∧ State.reset.idle = false ∧
  State.reset.stale = [] ∧ State.reset.ccDirty = false ∧ readReg State.reset 0 = 0 ∧
  resolve State.reset State.reset.pc .fetch = .ok (0x1C000000, 0)

/-- 70_reset_and_hazards.md R460: a reset at an instruction boundary puts the listed state at its values and ends a wait;
that memory is kept is no rule of D00 but the specification's decision (92 D19), which the model takes (DESIGN CHOICE:
notes/assumptions/15.md). -/
def Obligations.ResetAtABoundary : Prop :=
  ∀ s : State, resetAsserted s = true →
    Ends (step s) fun t =>
      t.pc = 0x1C000000 ∧ bits 0 9 t.csr.crmd = 8 ∧ bit 0 t.csr.euen = false ∧ bits 0 13 t.csr.ecfg = 0 ∧
      bits 0 2 t.csr.estat = 0 ∧ tcfgEn t.csr = false ∧ t.timer.running = false ∧ llbctlKlo t.csr = false ∧
      bit 0 t.csr.dmw0 = false ∧ bit 3 t.csr.dmw0 = false ∧ bit 0 t.csr.dmw1 = false ∧ bit 3 t.csr.dmw1 = false ∧
      t.idle = false ∧ t.stale = [] ∧ t.ccDirty = false ∧ readReg t 0 = 0 ∧ t.mem = (environment s).mem
end

