-- ==== Sys2Proof/Laws/Bits.lean ====
section
/-! SUPPORT. What reading, placing and replacing a bit slice do to one another. -/

namespace Sys2Proof

theorem getLsbD_bits (lo n i : Nat) (w : Word) :
    (bits lo n w).getLsbD i = (decide (i < n) && w.getLsbD (lo + i)) := by
  simp only [bits, BitVec.getLsbD_extractLsb']

theorem getLsbD_place (lo i : Nat) {n : Nat} (v : BitVec n) :
    (place lo v).getLsbD i = (decide (i < 32) && !decide (i < lo) && v.getLsbD (i - lo)) := by
  simp only [place, BitVec.getLsbD_shiftLeft, BitVec.getLsbD_setWidth]
  by_cases h : i < 32
  · have h2 : i - lo < 32 := by omega
    simp only [h, h2, decide_true, Bool.true_and]
  · simp only [h, decide_false, Bool.false_and]

/-- A bit of a word in which a field was set: the field's bit inside it, the old bit outside. -/
theorem getLsbD_setBits (lo i : Nat) {n : Nat} (v : BitVec n) (w : Word) (h : i < 32) :
    (setBits lo v w).getLsbD i = if lo ≤ i ∧ i < lo + n then v.getLsbD (i - lo) else w.getLsbD i := by
  simp only [setBits, BitVec.getLsbD_or, BitVec.getLsbD_and, BitVec.getLsbD_not, getLsbD_place,
    BitVec.getLsbD_allOnes, h, decide_true, Bool.true_and]
  by_cases h1 : lo ≤ i
  · have h3 : ¬ i < lo := by omega
    by_cases h2 : i < lo + n
    · have h4 : i - lo < n := by omega
      simp [h1, h2, h3, h4]
    · have h4 : ¬ i - lo < n := by omega
      have h5 : v.getLsbD (i - lo) = false := BitVec.getLsbD_of_ge _ _ (by omega)
      simp [h2, h3, h4, h5]
  · have h3 : i < lo := by omega
    simp [h1, h3]

/-- A slice of a union is the union of the slices. -/
theorem bits_or (lo n : Nat) (a b : Word) : bits lo n (a ||| b) = bits lo n a ||| bits lo n b := by
  apply BitVec.eq_of_getLsbD_eq
  intro i hi
  simp only [getLsbD_bits, BitVec.getLsbD_or, hi, decide_true, Bool.true_and]

/-- A slice of an intersection is the intersection of the slices. -/
theorem bits_and (lo n : Nat) (a b : Word) : bits lo n (a &&& b) = bits lo n a &&& bits lo n b := by
  apply BitVec.eq_of_getLsbD_eq
  intro i hi
  simp only [getLsbD_bits, BitVec.getLsbD_and, hi, decide_true, Bool.true_and]

/-- A slice inside a placed value is a slice of the value. -/
theorem bits_place_sub (lo l n : Nat) {m : Nat} (v : BitVec m) (h1 : l ≤ lo) (h2 : lo + n ≤ 32) :
    bits lo n (place l v) = v.extractLsb' (lo - l) n := by
  apply BitVec.eq_of_getLsbD_eq
  intro i hi
  have h4 : lo + i < 32 := by omega
  have h5 : ¬ lo + i < l := by omega
  have h6 : lo + i - l = lo - l + i := by omega
  simp [getLsbD_bits, getLsbD_place, -BitVec.getLsbD_eq_getElem, hi, h4, h5, h6]

/-- A slice read back where it was placed. -/
theorem bits_place (lo : Nat) {n : Nat} (v : BitVec n) (h : lo + n ≤ 32) : bits lo n (place lo v) = v := by
  rw [bits_place_sub lo lo n v (Nat.le_refl lo) h]
  simp

/-- A slice beside a placed value is 0. -/
theorem bits_place_of_disjoint (lo l n : Nat) {m : Nat} (v : BitVec m) (h : lo + n ≤ l ∨ l + m ≤ lo) :
    bits lo n (place l v) = 0#n := by
  apply BitVec.eq_of_getLsbD_eq
  intro i hi
  simp only [getLsbD_bits, getLsbD_place, BitVec.getLsbD_zero]
  rcases h with h | h
  · have : lo + i < l := by omega
    simp [this]
  · have : v.getLsbD (lo + i - l) = false := BitVec.getLsbD_of_ge _ _ (by omega)
    simp [this]

/-- A field read back after it was set. -/
theorem bits_setBits (lo : Nat) {n : Nat} (v : BitVec n) (w : Word) (h : lo + n ≤ 32) :
    bits lo n (setBits lo v w) = v := by
  apply BitVec.eq_of_getLsbD_eq
  intro i hi
  have h1 : lo + i < 32 := by omega
  have h2 : lo ≤ lo + i ∧ lo + i < lo + n := by omega
  rw [getLsbD_bits, getLsbD_setBits _ _ _ _ h1, if_pos h2, Nat.add_sub_cancel_left]
  simp only [hi, decide_true, Bool.true_and]

/-- Setting a field leaves every slice beside it. -/
theorem bits_setBits_of_disjoint (lo l n : Nat) {m : Nat} (v : BitVec m) (w : Word) (h : lo + n ≤ l ∨ l + m ≤ lo) :
    bits lo n (setBits l v w) = bits lo n w := by
  apply BitVec.eq_of_getLsbD_eq
  intro i hi
  simp only [getLsbD_bits, hi, decide_true, Bool.true_and]
  by_cases h32 : lo + i < 32
  · rw [getLsbD_setBits _ _ _ _ h32, if_neg (by omega)]
  · rw [BitVec.getLsbD_of_ge _ _ (by omega), BitVec.getLsbD_of_ge _ _ (by omega)]

/-- A bit is the slice of width 1. -/
theorem bit_eq_bits (k : Nat) (w : Word) : bit k w = (bits k 1 w == 1#1) := by
  have h : bits k 1 w = BitVec.ofBool (bit k w) := by
    apply BitVec.eq_of_getLsbD_eq
    intro i hi
    have h0 : i = 0 := by omega
    subst h0
    simp [getLsbD_bits, bit, -BitVec.getLsbD_eq_getElem]
  rw [h]
  cases bit k w <;> rfl

/-- `bit` of a word in which a field was set. -/
theorem bit_setBits (k lo : Nat) {n : Nat} (v : BitVec n) (w : Word) (h : k < 32) :
    bit k (setBits lo v w) = if lo ≤ k ∧ k < lo + n then v.getLsbD (k - lo) else bit k w :=
  getLsbD_setBits lo k v w h

theorem getLsbD_lowMask (n i : Nat) (h : n ≤ 32) : (lowMask n).getLsbD i = decide (i < n) := by
  have : i < n → i < 32 := by omega
  simp only [lowMask, BitVec.getLsbD_ofNat, Nat.testBit_two_pow_sub_one]
  by_cases hi : i < n <;> simp [hi, this]

/-- Clearing the bits outside a mask twice is clearing them once. -/
theorem and_mask_idem (w m : Word) : w &&& m &&& m = w &&& m := by
  rw [BitVec.and_assoc, BitVec.and_self]

/-- A masked word has no bit outside its mask. -/
theorem and_mask_not (w m : Word) : w &&& m &&& ~~~m = 0#32 := by
  rw [BitVec.and_assoc, BitVec.and_not_self]
  exact BitVec.and_zero

/-- A word with no bit outside a mask keeps its value under the mask. -/
theorem and_mask_of_reserved (w m : Word) (h : w &&& ~~~m = 0) : w &&& m = w := by
  apply BitVec.eq_of_getLsbD_eq; intro i hi
  have := congrArg (·.getLsbD i) h
  simp only [BitVec.getLsbD_and, BitVec.getLsbD_not, hi, decide_true, Bool.true_and] at this
  rw [BitVec.getLsbD_and]
  rw [show (0 : BitVec 32).getLsbD i = false by simp] at this
  revert this
  cases w.getLsbD i <;> cases m.getLsbD i <;> simp

/-- Writing a field with its own value changes nothing. -/
theorem setBits_bits_self (lo n : Nat) (w : Word) : setBits lo (bits lo n w) w = w := by
  apply BitVec.eq_of_getLsbD_eq; intro i hi
  rw [getLsbD_setBits _ _ _ _ hi]
  split
  · next h => rw [getLsbD_bits]; simp [show i - lo < n by omega, show lo + (i - lo) = i by omega]
  · rfl

end Sys2Proof
end

