-- ==== Sys2Proof/Laws/State.lean ====
section
/-! SUPPORT. What each named update of the state does to each field. -/

namespace Sys2Proof.Machine

open Sys2Proof

@[simp] theorem goto_cfg (s : State) (t : Word) : (goto s t).cfg = s.cfg := rfl
@[simp] theorem goto_gpr (s : State) (t : Word) : (goto s t).gpr = s.gpr := rfl
@[simp] theorem goto_pc (s : State) (t : Word) : (goto s t).pc = t := rfl
@[simp] theorem goto_csr (s : State) (t : Word) : (goto s t).csr = s.csr := rfl
@[simp] theorem goto_llbit (s : State) (t : Word) : (goto s t).llbit = s.llbit := rfl
@[simp] theorem goto_lladdr (s : State) (t : Word) : (goto s t).lladdr = s.lladdr := rfl
@[simp] theorem goto_tlb (s : State) (t : Word) : (goto s t).tlb = s.tlb := rfl
@[simp] theorem goto_counter (s : State) (t : Word) : (goto s t).counter = s.counter := rfl
@[simp] theorem goto_timer (s : State) (t : Word) : (goto s t).timer = s.timer := rfl
@[simp] theorem goto_hwi (s : State) (t : Word) : (goto s t).hwi = s.hwi := rfl
@[simp] theorem goto_ipi (s : State) (t : Word) : (goto s t).ipi = s.ipi := rfl
@[simp] theorem goto_idle (s : State) (t : Word) : (goto s t).idle = s.idle := rfl
@[simp] theorem goto_fp (s : State) (t : Word) : (goto s t).fp = s.fp := rfl
@[simp] theorem goto_mem (s : State) (t : Word) : (goto s t).mem = s.mem := rfl
@[simp] theorem goto_stale (s : State) (t : Word) : (goto s t).stale = s.stale := rfl
@[simp] theorem goto_ccDirty (s : State) (t : Word) : (goto s t).ccDirty = s.ccDirty := rfl
@[simp] theorem goto_draws (s : State) (t : Word) : (goto s t).draws = s.draws := rfl
@[simp] theorem goto_env (s : State) (t : Word) : (goto s t).env = s.env := rfl

@[simp] theorem advance_cfg (s : State) : (advance s).cfg = s.cfg := rfl
@[simp] theorem advance_gpr (s : State) : (advance s).gpr = s.gpr := rfl
@[simp] theorem advance_pc (s : State) : (advance s).pc = s.pc + 4 := rfl
@[simp] theorem advance_csr (s : State) : (advance s).csr = s.csr := rfl
@[simp] theorem advance_llbit (s : State) : (advance s).llbit = s.llbit := rfl
@[simp] theorem advance_lladdr (s : State) : (advance s).lladdr = s.lladdr := rfl
@[simp] theorem advance_tlb (s : State) : (advance s).tlb = s.tlb := rfl
@[simp] theorem advance_counter (s : State) : (advance s).counter = s.counter := rfl
@[simp] theorem advance_timer (s : State) : (advance s).timer = s.timer := rfl
@[simp] theorem advance_hwi (s : State) : (advance s).hwi = s.hwi := rfl
@[simp] theorem advance_ipi (s : State) : (advance s).ipi = s.ipi := rfl
@[simp] theorem advance_idle (s : State) : (advance s).idle = s.idle := rfl
@[simp] theorem advance_fp (s : State) : (advance s).fp = s.fp := rfl
@[simp] theorem advance_mem (s : State) : (advance s).mem = s.mem := rfl
@[simp] theorem advance_stale (s : State) : (advance s).stale = s.stale := rfl
@[simp] theorem advance_ccDirty (s : State) : (advance s).ccDirty = s.ccDirty := rfl
@[simp] theorem advance_draws (s : State) : (advance s).draws = s.draws := rfl
@[simp] theorem advance_env (s : State) : (advance s).env = s.env := rfl

@[simp] theorem writeReg_cfg (s : State) (r : Reg) (v : Word) : (writeReg s r v).cfg = s.cfg := by unfold writeReg; split <;> rfl
@[simp] theorem writeReg_pc (s : State) (r : Reg) (v : Word) : (writeReg s r v).pc = s.pc := by unfold writeReg; split <;> rfl
@[simp] theorem writeReg_csr (s : State) (r : Reg) (v : Word) : (writeReg s r v).csr = s.csr := by unfold writeReg; split <;> rfl
@[simp] theorem writeReg_llbit (s : State) (r : Reg) (v : Word) : (writeReg s r v).llbit = s.llbit := by unfold writeReg; split <;> rfl
@[simp] theorem writeReg_lladdr (s : State) (r : Reg) (v : Word) : (writeReg s r v).lladdr = s.lladdr := by unfold writeReg; split <;> rfl
@[simp] theorem writeReg_tlb (s : State) (r : Reg) (v : Word) : (writeReg s r v).tlb = s.tlb := by unfold writeReg; split <;> rfl
@[simp] theorem writeReg_counter (s : State) (r : Reg) (v : Word) : (writeReg s r v).counter = s.counter := by unfold writeReg; split <;> rfl
@[simp] theorem writeReg_timer (s : State) (r : Reg) (v : Word) : (writeReg s r v).timer = s.timer := by unfold writeReg; split <;> rfl
@[simp] theorem writeReg_hwi (s : State) (r : Reg) (v : Word) : (writeReg s r v).hwi = s.hwi := by unfold writeReg; split <;> rfl
@[simp] theorem writeReg_ipi (s : State) (r : Reg) (v : Word) : (writeReg s r v).ipi = s.ipi := by unfold writeReg; split <;> rfl
@[simp] theorem writeReg_idle (s : State) (r : Reg) (v : Word) : (writeReg s r v).idle = s.idle := by unfold writeReg; split <;> rfl
@[simp] theorem writeReg_fp (s : State) (r : Reg) (v : Word) : (writeReg s r v).fp = s.fp := by unfold writeReg; split <;> rfl
@[simp] theorem writeReg_mem (s : State) (r : Reg) (v : Word) : (writeReg s r v).mem = s.mem := by unfold writeReg; split <;> rfl
@[simp] theorem writeReg_stale (s : State) (r : Reg) (v : Word) : (writeReg s r v).stale = s.stale := by unfold writeReg; split <;> rfl
@[simp] theorem writeReg_ccDirty (s : State) (r : Reg) (v : Word) : (writeReg s r v).ccDirty = s.ccDirty := by unfold writeReg; split <;> rfl
@[simp] theorem writeReg_draws (s : State) (r : Reg) (v : Word) : (writeReg s r v).draws = s.draws := by unfold writeReg; split <;> rfl
@[simp] theorem writeReg_env (s : State) (r : Reg) (v : Word) : (writeReg s r v).env = s.env := by unfold writeReg; split <;> rfl

@[simp] theorem drawn_cfg (s : State) : (drawn s).cfg = s.cfg := rfl
@[simp] theorem drawn_gpr (s : State) : (drawn s).gpr = s.gpr := rfl
@[simp] theorem drawn_pc (s : State) : (drawn s).pc = s.pc := rfl
@[simp] theorem drawn_csr (s : State) : (drawn s).csr = s.csr := rfl
@[simp] theorem drawn_llbit (s : State) : (drawn s).llbit = s.llbit := rfl
@[simp] theorem drawn_lladdr (s : State) : (drawn s).lladdr = s.lladdr := rfl
@[simp] theorem drawn_tlb (s : State) : (drawn s).tlb = s.tlb := rfl
@[simp] theorem drawn_counter (s : State) : (drawn s).counter = s.counter := rfl
@[simp] theorem drawn_timer (s : State) : (drawn s).timer = s.timer := rfl
@[simp] theorem drawn_hwi (s : State) : (drawn s).hwi = s.hwi := rfl
@[simp] theorem drawn_ipi (s : State) : (drawn s).ipi = s.ipi := rfl
@[simp] theorem drawn_idle (s : State) : (drawn s).idle = s.idle := rfl
@[simp] theorem drawn_fp (s : State) : (drawn s).fp = s.fp := rfl
@[simp] theorem drawn_mem (s : State) : (drawn s).mem = s.mem := rfl
@[simp] theorem drawn_stale (s : State) : (drawn s).stale = s.stale := rfl
@[simp] theorem drawn_ccDirty (s : State) : (drawn s).ccDirty = s.ccDirty := rfl
@[simp] theorem drawn_draws (s : State) : (drawn s).draws = s.draws + 1 := rfl
@[simp] theorem drawn_env (s : State) : (drawn s).env = s.env := rfl

@[simp] theorem setReservation_cfg (s : State) (pa : Nat) : (setReservation s pa).cfg = s.cfg := rfl
@[simp] theorem setReservation_gpr (s : State) (pa : Nat) : (setReservation s pa).gpr = s.gpr := rfl
@[simp] theorem setReservation_pc (s : State) (pa : Nat) : (setReservation s pa).pc = s.pc := rfl
@[simp] theorem setReservation_csr (s : State) (pa : Nat) : (setReservation s pa).csr = s.csr := rfl
@[simp] theorem setReservation_llbit (s : State) (pa : Nat) : (setReservation s pa).llbit = true := rfl
@[simp] theorem setReservation_lladdr (s : State) (pa : Nat) : (setReservation s pa).lladdr = pa := rfl
@[simp] theorem setReservation_tlb (s : State) (pa : Nat) : (setReservation s pa).tlb = s.tlb := rfl
@[simp] theorem setReservation_counter (s : State) (pa : Nat) : (setReservation s pa).counter = s.counter := rfl
@[simp] theorem setReservation_timer (s : State) (pa : Nat) : (setReservation s pa).timer = s.timer := rfl
@[simp] theorem setReservation_hwi (s : State) (pa : Nat) : (setReservation s pa).hwi = s.hwi := rfl
@[simp] theorem setReservation_ipi (s : State) (pa : Nat) : (setReservation s pa).ipi = s.ipi := rfl
@[simp] theorem setReservation_idle (s : State) (pa : Nat) : (setReservation s pa).idle = s.idle := rfl
@[simp] theorem setReservation_fp (s : State) (pa : Nat) : (setReservation s pa).fp = s.fp := rfl
@[simp] theorem setReservation_mem (s : State) (pa : Nat) : (setReservation s pa).mem = s.mem := rfl
@[simp] theorem setReservation_stale (s : State) (pa : Nat) : (setReservation s pa).stale = s.stale := rfl
@[simp] theorem setReservation_ccDirty (s : State) (pa : Nat) : (setReservation s pa).ccDirty = s.ccDirty := rfl
@[simp] theorem setReservation_draws (s : State) (pa : Nat) : (setReservation s pa).draws = s.draws := rfl
@[simp] theorem setReservation_env (s : State) (pa : Nat) : (setReservation s pa).env = s.env := rfl

@[simp] theorem clearLlbit_cfg (s : State) : (clearLlbit s).cfg = s.cfg := rfl
@[simp] theorem clearLlbit_gpr (s : State) : (clearLlbit s).gpr = s.gpr := rfl
@[simp] theorem clearLlbit_pc (s : State) : (clearLlbit s).pc = s.pc := rfl
@[simp] theorem clearLlbit_csr (s : State) : (clearLlbit s).csr = s.csr := rfl
@[simp] theorem clearLlbit_llbit (s : State) : (clearLlbit s).llbit = false := rfl
@[simp] theorem clearLlbit_lladdr (s : State) : (clearLlbit s).lladdr = s.lladdr := rfl
@[simp] theorem clearLlbit_tlb (s : State) : (clearLlbit s).tlb = s.tlb := rfl
@[simp] theorem clearLlbit_counter (s : State) : (clearLlbit s).counter = s.counter := rfl
@[simp] theorem clearLlbit_timer (s : State) : (clearLlbit s).timer = s.timer := rfl
@[simp] theorem clearLlbit_hwi (s : State) : (clearLlbit s).hwi = s.hwi := rfl
@[simp] theorem clearLlbit_ipi (s : State) : (clearLlbit s).ipi = s.ipi := rfl
@[simp] theorem clearLlbit_idle (s : State) : (clearLlbit s).idle = s.idle := rfl
@[simp] theorem clearLlbit_fp (s : State) : (clearLlbit s).fp = s.fp := rfl
@[simp] theorem clearLlbit_mem (s : State) : (clearLlbit s).mem = s.mem := rfl
@[simp] theorem clearLlbit_stale (s : State) : (clearLlbit s).stale = s.stale := rfl
@[simp] theorem clearLlbit_ccDirty (s : State) : (clearLlbit s).ccDirty = s.ccDirty := rfl
@[simp] theorem clearLlbit_draws (s : State) : (clearLlbit s).draws = s.draws := rfl
@[simp] theorem clearLlbit_env (s : State) : (clearLlbit s).env = s.env := rfl

@[simp] theorem afterSc_cfg (s : State) : (afterSc s).cfg = s.cfg := by unfold afterSc clearLlbit; split <;> simp_all
@[simp] theorem afterSc_gpr (s : State) : (afterSc s).gpr = s.gpr := by unfold afterSc clearLlbit; split <;> simp_all
@[simp] theorem afterSc_pc (s : State) : (afterSc s).pc = s.pc := by unfold afterSc clearLlbit; split <;> simp_all
@[simp] theorem afterSc_csr (s : State) : (afterSc s).csr = s.csr := by unfold afterSc clearLlbit; split <;> simp_all
@[simp] theorem afterSc_llbit (s : State) : (afterSc s).llbit = (!s.cfg.scClearsLlbit && s.llbit) := by unfold afterSc clearLlbit; split <;> simp_all
@[simp] theorem afterSc_lladdr (s : State) : (afterSc s).lladdr = s.lladdr := by unfold afterSc clearLlbit; split <;> simp_all
@[simp] theorem afterSc_tlb (s : State) : (afterSc s).tlb = s.tlb := by unfold afterSc clearLlbit; split <;> simp_all
@[simp] theorem afterSc_counter (s : State) : (afterSc s).counter = s.counter := by unfold afterSc clearLlbit; split <;> simp_all
@[simp] theorem afterSc_timer (s : State) : (afterSc s).timer = s.timer := by unfold afterSc clearLlbit; split <;> simp_all
@[simp] theorem afterSc_hwi (s : State) : (afterSc s).hwi = s.hwi := by unfold afterSc clearLlbit; split <;> simp_all
@[simp] theorem afterSc_ipi (s : State) : (afterSc s).ipi = s.ipi := by unfold afterSc clearLlbit; split <;> simp_all
@[simp] theorem afterSc_idle (s : State) : (afterSc s).idle = s.idle := by unfold afterSc clearLlbit; split <;> simp_all
@[simp] theorem afterSc_fp (s : State) : (afterSc s).fp = s.fp := by unfold afterSc clearLlbit; split <;> simp_all
@[simp] theorem afterSc_mem (s : State) : (afterSc s).mem = s.mem := by unfold afterSc clearLlbit; split <;> simp_all
@[simp] theorem afterSc_stale (s : State) : (afterSc s).stale = s.stale := by unfold afterSc clearLlbit; split <;> simp_all
@[simp] theorem afterSc_ccDirty (s : State) : (afterSc s).ccDirty = s.ccDirty := by unfold afterSc clearLlbit; split <;> simp_all
@[simp] theorem afterSc_draws (s : State) : (afterSc s).draws = s.draws := by unfold afterSc clearLlbit; split <;> simp_all
@[simp] theorem afterSc_env (s : State) : (afterSc s).env = s.env := by unfold afterSc clearLlbit; split <;> simp_all

@[simp] theorem enter_cfg (e : Exc) (s : State) : (enter e s).cfg = s.cfg := rfl
@[simp] theorem enter_gpr (e : Exc) (s : State) : (enter e s).gpr = s.gpr := rfl
@[simp] theorem enter_pc (e : Exc) (s : State) : (enter e s).pc = handlerOf e s.csr := rfl
@[simp] theorem enter_csr (e : Exc) (s : State) : (enter e s).csr = enterCsrs e s.pc s.csr := rfl
@[simp] theorem enter_llbit (e : Exc) (s : State) : (enter e s).llbit = s.llbit := rfl
@[simp] theorem enter_lladdr (e : Exc) (s : State) : (enter e s).lladdr = s.lladdr := rfl
@[simp] theorem enter_tlb (e : Exc) (s : State) : (enter e s).tlb = s.tlb := rfl
@[simp] theorem enter_counter (e : Exc) (s : State) : (enter e s).counter = s.counter := rfl
@[simp] theorem enter_timer (e : Exc) (s : State) : (enter e s).timer = s.timer := rfl
@[simp] theorem enter_hwi (e : Exc) (s : State) : (enter e s).hwi = s.hwi := rfl
@[simp] theorem enter_ipi (e : Exc) (s : State) : (enter e s).ipi = s.ipi := rfl
@[simp] theorem enter_idle (e : Exc) (s : State) : (enter e s).idle = false := rfl
@[simp] theorem enter_fp (e : Exc) (s : State) : (enter e s).fp = s.fp := rfl
@[simp] theorem enter_mem (e : Exc) (s : State) : (enter e s).mem = s.mem := rfl
@[simp] theorem enter_stale (e : Exc) (s : State) : (enter e s).stale = s.stale := rfl
@[simp] theorem enter_ccDirty (e : Exc) (s : State) : (enter e s).ccDirty = s.ccDirty := rfl
@[simp] theorem enter_draws (e : Exc) (s : State) : (enter e s).draws = s.draws := rfl
@[simp] theorem enter_env (e : Exc) (s : State) : (enter e s).env = s.env := rfl

@[simp] theorem exceptionReturn_cfg (s : State) : (exceptionReturn s).cfg = s.cfg := rfl
@[simp] theorem exceptionReturn_gpr (s : State) : (exceptionReturn s).gpr = s.gpr := rfl
@[simp] theorem exceptionReturn_pc (s : State) : (exceptionReturn s).pc = s.csr.era := rfl
@[simp] theorem exceptionReturn_csr (s : State) : (exceptionReturn s).csr = returnCsrs s.csr := rfl
@[simp] theorem exceptionReturn_llbit (s : State) : (exceptionReturn s).llbit = if llbctlKlo s.csr then s.llbit else false := rfl
@[simp] theorem exceptionReturn_lladdr (s : State) : (exceptionReturn s).lladdr = s.lladdr := rfl
@[simp] theorem exceptionReturn_tlb (s : State) : (exceptionReturn s).tlb = s.tlb := rfl
@[simp] theorem exceptionReturn_counter (s : State) : (exceptionReturn s).counter = s.counter := rfl
@[simp] theorem exceptionReturn_timer (s : State) : (exceptionReturn s).timer = s.timer := rfl
@[simp] theorem exceptionReturn_hwi (s : State) : (exceptionReturn s).hwi = s.hwi := rfl
@[simp] theorem exceptionReturn_ipi (s : State) : (exceptionReturn s).ipi = s.ipi := rfl
@[simp] theorem exceptionReturn_idle (s : State) : (exceptionReturn s).idle = s.idle := rfl
@[simp] theorem exceptionReturn_fp (s : State) : (exceptionReturn s).fp = s.fp := rfl
@[simp] theorem exceptionReturn_mem (s : State) : (exceptionReturn s).mem = s.mem := rfl
@[simp] theorem exceptionReturn_stale (s : State) : (exceptionReturn s).stale = s.stale := rfl
@[simp] theorem exceptionReturn_ccDirty (s : State) : (exceptionReturn s).ccDirty = s.ccDirty := rfl
@[simp] theorem exceptionReturn_draws (s : State) : (exceptionReturn s).draws = s.draws := rfl
@[simp] theorem exceptionReturn_env (s : State) : (exceptionReturn s).env = s.env := rfl

@[simp] theorem storeAt_cfg (s : State) (pa : Nat) (mat : BitVec 2) (w : Width) (v : Word) : (storeAt s pa mat w v).cfg = s.cfg := rfl
@[simp] theorem storeAt_gpr (s : State) (pa : Nat) (mat : BitVec 2) (w : Width) (v : Word) : (storeAt s pa mat w v).gpr = s.gpr := rfl
@[simp] theorem storeAt_pc (s : State) (pa : Nat) (mat : BitVec 2) (w : Width) (v : Word) : (storeAt s pa mat w v).pc = s.pc := rfl
@[simp] theorem storeAt_csr (s : State) (pa : Nat) (mat : BitVec 2) (w : Width) (v : Word) : (storeAt s pa mat w v).csr = s.csr := rfl
@[simp] theorem storeAt_llbit (s : State) (pa : Nat) (mat : BitVec 2) (w : Width) (v : Word) : (storeAt s pa mat w v).llbit = s.llbit := rfl
@[simp] theorem storeAt_lladdr (s : State) (pa : Nat) (mat : BitVec 2) (w : Width) (v : Word) : (storeAt s pa mat w v).lladdr = s.lladdr := rfl
@[simp] theorem storeAt_tlb (s : State) (pa : Nat) (mat : BitVec 2) (w : Width) (v : Word) : (storeAt s pa mat w v).tlb = s.tlb := rfl
@[simp] theorem storeAt_counter (s : State) (pa : Nat) (mat : BitVec 2) (w : Width) (v : Word) : (storeAt s pa mat w v).counter = s.counter := rfl
@[simp] theorem storeAt_timer (s : State) (pa : Nat) (mat : BitVec 2) (w : Width) (v : Word) : (storeAt s pa mat w v).timer = s.timer := rfl
@[simp] theorem storeAt_hwi (s : State) (pa : Nat) (mat : BitVec 2) (w : Width) (v : Word) : (storeAt s pa mat w v).hwi = s.hwi := rfl
@[simp] theorem storeAt_ipi (s : State) (pa : Nat) (mat : BitVec 2) (w : Width) (v : Word) : (storeAt s pa mat w v).ipi = s.ipi := rfl
@[simp] theorem storeAt_idle (s : State) (pa : Nat) (mat : BitVec 2) (w : Width) (v : Word) : (storeAt s pa mat w v).idle = s.idle := rfl
@[simp] theorem storeAt_fp (s : State) (pa : Nat) (mat : BitVec 2) (w : Width) (v : Word) : (storeAt s pa mat w v).fp = s.fp := rfl
@[simp] theorem storeAt_mem (s : State) (pa : Nat) (mat : BitVec 2) (w : Width) (v : Word) : (storeAt s pa mat w v).mem = writeLE s.mem pa (widthBytes w) v := rfl
@[simp] theorem storeAt_stale (s : State) (pa : Nat) (mat : BitVec 2) (w : Width) (v : Word) : (storeAt s pa mat w v).stale = markStale mat s.stale pa (widthBytes w) := rfl
@[simp] theorem storeAt_ccDirty (s : State) (pa : Nat) (mat : BitVec 2) (w : Width) (v : Word) : (storeAt s pa mat w v).ccDirty = (s.ccDirty || mat == matCc) := rfl
@[simp] theorem storeAt_draws (s : State) (pa : Nat) (mat : BitVec 2) (w : Width) (v : Word) : (storeAt s pa mat w v).draws = s.draws := rfl
@[simp] theorem storeAt_env (s : State) (pa : Nat) (mat : BitVec 2) (w : Width) (v : Word) : (storeAt s pa mat w v).env = s.env := rfl

@[simp] theorem loadTimer_cfg (s : State) : (loadTimer s).cfg = s.cfg := by unfold loadTimer; split <;> rfl
@[simp] theorem loadTimer_gpr (s : State) : (loadTimer s).gpr = s.gpr := by unfold loadTimer; split <;> rfl
@[simp] theorem loadTimer_pc (s : State) : (loadTimer s).pc = s.pc := by unfold loadTimer; split <;> rfl
@[simp] theorem loadTimer_csr (s : State) : (loadTimer s).csr = s.csr := by unfold loadTimer; split <;> rfl
@[simp] theorem loadTimer_llbit (s : State) : (loadTimer s).llbit = s.llbit := by unfold loadTimer; split <;> rfl
@[simp] theorem loadTimer_lladdr (s : State) : (loadTimer s).lladdr = s.lladdr := by unfold loadTimer; split <;> rfl
@[simp] theorem loadTimer_tlb (s : State) : (loadTimer s).tlb = s.tlb := by unfold loadTimer; split <;> rfl
@[simp] theorem loadTimer_counter (s : State) : (loadTimer s).counter = s.counter := by unfold loadTimer; split <;> rfl
@[simp] theorem loadTimer_hwi (s : State) : (loadTimer s).hwi = s.hwi := by unfold loadTimer; split <;> rfl
@[simp] theorem loadTimer_ipi (s : State) : (loadTimer s).ipi = s.ipi := by unfold loadTimer; split <;> rfl
@[simp] theorem loadTimer_idle (s : State) : (loadTimer s).idle = s.idle := by unfold loadTimer; split <;> rfl
@[simp] theorem loadTimer_fp (s : State) : (loadTimer s).fp = s.fp := by unfold loadTimer; split <;> rfl
@[simp] theorem loadTimer_mem (s : State) : (loadTimer s).mem = s.mem := by unfold loadTimer; split <;> rfl
@[simp] theorem loadTimer_stale (s : State) : (loadTimer s).stale = s.stale := by unfold loadTimer; split <;> rfl
@[simp] theorem loadTimer_ccDirty (s : State) : (loadTimer s).ccDirty = s.ccDirty := by unfold loadTimer; split <;> rfl
@[simp] theorem loadTimer_draws (s : State) : (loadTimer s).draws = s.draws := by unfold loadTimer; split <;> rfl
@[simp] theorem loadTimer_env (s : State) : (loadTimer s).env = s.env := by unfold loadTimer; split <;> rfl

@[simp] theorem clearTimerInterrupt_cfg (s : State) : (clearTimerInterrupt s).cfg = s.cfg := rfl
@[simp] theorem clearTimerInterrupt_gpr (s : State) : (clearTimerInterrupt s).gpr = s.gpr := rfl
@[simp] theorem clearTimerInterrupt_pc (s : State) : (clearTimerInterrupt s).pc = s.pc := rfl
@[simp] theorem clearTimerInterrupt_csr (s : State) : (clearTimerInterrupt s).csr = s.csr := rfl
@[simp] theorem clearTimerInterrupt_llbit (s : State) : (clearTimerInterrupt s).llbit = s.llbit := rfl
@[simp] theorem clearTimerInterrupt_lladdr (s : State) : (clearTimerInterrupt s).lladdr = s.lladdr := rfl
@[simp] theorem clearTimerInterrupt_tlb (s : State) : (clearTimerInterrupt s).tlb = s.tlb := rfl
@[simp] theorem clearTimerInterrupt_counter (s : State) : (clearTimerInterrupt s).counter = s.counter := rfl
@[simp] theorem clearTimerInterrupt_timer (s : State) : (clearTimerInterrupt s).timer = { s.timer with pending := false } := rfl
@[simp] theorem clearTimerInterrupt_hwi (s : State) : (clearTimerInterrupt s).hwi = s.hwi := rfl
@[simp] theorem clearTimerInterrupt_ipi (s : State) : (clearTimerInterrupt s).ipi = s.ipi := rfl
@[simp] theorem clearTimerInterrupt_idle (s : State) : (clearTimerInterrupt s).idle = s.idle := rfl
@[simp] theorem clearTimerInterrupt_fp (s : State) : (clearTimerInterrupt s).fp = s.fp := rfl
@[simp] theorem clearTimerInterrupt_mem (s : State) : (clearTimerInterrupt s).mem = s.mem := rfl
@[simp] theorem clearTimerInterrupt_stale (s : State) : (clearTimerInterrupt s).stale = s.stale := rfl
@[simp] theorem clearTimerInterrupt_ccDirty (s : State) : (clearTimerInterrupt s).ccDirty = s.ccDirty := rfl
@[simp] theorem clearTimerInterrupt_draws (s : State) : (clearTimerInterrupt s).draws = s.draws := rfl
@[simp] theorem clearTimerInterrupt_env (s : State) : (clearTimerInterrupt s).env = s.env := rfl

@[simp] theorem deliverTicks_cfg (n : Nat) (s : State) : (deliverTicks n s).cfg = s.cfg := rfl
@[simp] theorem deliverTicks_gpr (n : Nat) (s : State) : (deliverTicks n s).gpr = s.gpr := rfl
@[simp] theorem deliverTicks_pc (n : Nat) (s : State) : (deliverTicks n s).pc = s.pc := rfl
@[simp] theorem deliverTicks_csr (n : Nat) (s : State) : (deliverTicks n s).csr = s.csr := rfl
@[simp] theorem deliverTicks_llbit (n : Nat) (s : State) : (deliverTicks n s).llbit = s.llbit := rfl
@[simp] theorem deliverTicks_lladdr (n : Nat) (s : State) : (deliverTicks n s).lladdr = s.lladdr := rfl
@[simp] theorem deliverTicks_tlb (n : Nat) (s : State) : (deliverTicks n s).tlb = s.tlb := rfl
@[simp] theorem deliverTicks_counter (n : Nat) (s : State) : (deliverTicks n s).counter = s.counter := rfl
@[simp] theorem deliverTicks_timer (n : Nat) (s : State) : (deliverTicks n s).timer = ticks s.cfg s.csr n s.timer := rfl
@[simp] theorem deliverTicks_hwi (n : Nat) (s : State) : (deliverTicks n s).hwi = s.hwi := rfl
@[simp] theorem deliverTicks_ipi (n : Nat) (s : State) : (deliverTicks n s).ipi = s.ipi := rfl
@[simp] theorem deliverTicks_idle (n : Nat) (s : State) : (deliverTicks n s).idle = s.idle := rfl
@[simp] theorem deliverTicks_fp (n : Nat) (s : State) : (deliverTicks n s).fp = s.fp := rfl
@[simp] theorem deliverTicks_mem (n : Nat) (s : State) : (deliverTicks n s).mem = s.mem := rfl
@[simp] theorem deliverTicks_stale (n : Nat) (s : State) : (deliverTicks n s).stale = s.stale := rfl
@[simp] theorem deliverTicks_ccDirty (n : Nat) (s : State) : (deliverTicks n s).ccDirty = s.ccDirty := rfl
@[simp] theorem deliverTicks_draws (n : Nat) (s : State) : (deliverTicks n s).draws = s.draws := rfl
@[simp] theorem deliverTicks_env (n : Nat) (s : State) : (deliverTicks n s).env = s.env := rfl

@[simp] theorem counterAdvanced_cfg (s : State) : (counterAdvanced s).cfg = s.cfg := rfl
@[simp] theorem counterAdvanced_gpr (s : State) : (counterAdvanced s).gpr = s.gpr := rfl
@[simp] theorem counterAdvanced_pc (s : State) : (counterAdvanced s).pc = s.pc := rfl
@[simp] theorem counterAdvanced_csr (s : State) : (counterAdvanced s).csr = s.csr := rfl
@[simp] theorem counterAdvanced_llbit (s : State) : (counterAdvanced s).llbit = s.llbit := rfl
@[simp] theorem counterAdvanced_lladdr (s : State) : (counterAdvanced s).lladdr = s.lladdr := rfl
@[simp] theorem counterAdvanced_tlb (s : State) : (counterAdvanced s).tlb = s.tlb := rfl
@[simp] theorem counterAdvanced_timer (s : State) : (counterAdvanced s).timer = s.timer := rfl
@[simp] theorem counterAdvanced_hwi (s : State) : (counterAdvanced s).hwi = s.hwi := rfl
@[simp] theorem counterAdvanced_ipi (s : State) : (counterAdvanced s).ipi = s.ipi := rfl
@[simp] theorem counterAdvanced_idle (s : State) : (counterAdvanced s).idle = s.idle := rfl
@[simp] theorem counterAdvanced_fp (s : State) : (counterAdvanced s).fp = s.fp := rfl
@[simp] theorem counterAdvanced_mem (s : State) : (counterAdvanced s).mem = s.mem := rfl
@[simp] theorem counterAdvanced_stale (s : State) : (counterAdvanced s).stale = s.stale := rfl
@[simp] theorem counterAdvanced_ccDirty (s : State) : (counterAdvanced s).ccDirty = s.ccDirty := rfl
@[simp] theorem counterAdvanced_draws (s : State) : (counterAdvanced s).draws = s.draws + 1 := rfl
@[simp] theorem counterAdvanced_env (s : State) : (counterAdvanced s).env = s.env := rfl

@[simp] theorem warmReset_cfg (s : State) : (warmReset s).cfg = s.cfg := by simp only [warmReset]
@[simp] theorem warmReset_pc (s : State) : (warmReset s).pc = 0x1C000000 := by simp only [warmReset]
@[simp] theorem warmReset_csr (s : State) : (warmReset s).csr = resetCsrs s := by simp only [warmReset]
@[simp] theorem warmReset_mem (s : State) : (warmReset s).mem = s.mem := by simp only [warmReset]
@[simp] theorem warmReset_idle (s : State) : (warmReset s).idle = false := by simp only [warmReset]
@[simp] theorem warmReset_stale (s : State) : (warmReset s).stale = [] := by simp only [warmReset]
@[simp] theorem warmReset_ccDirty (s : State) : (warmReset s).ccDirty = false := by simp only [warmReset]
@[simp] theorem warmReset_hwi (s : State) : (warmReset s).hwi = s.hwi := by simp only [warmReset]
@[simp] theorem warmReset_ipi (s : State) : (warmReset s).ipi = s.ipi := by simp only [warmReset]
@[simp] theorem warmReset_env (s : State) : (warmReset s).env = s.env := by simp only [warmReset]
@[simp] theorem warmReset_running (s : State) : (warmReset s).timer.running = false := by simp only [warmReset, resetTimer]
@[simp] theorem warmReset_tlb_length (s : State) : (warmReset s).tlb.length = s.tlb.length := by simp [warmReset, resetTlb]
@[simp] theorem warmReset_gpr_zero (s : State) : (warmReset s).gpr[0] = 0 := by
  simp [warmReset, resetGpr]

/-- A register write changes no field but the registers. -/
theorem writeReg_eq (s : State) (r : Reg) (v : Word) : ∃ g, writeReg s r v = { s with gpr := g } := by
  unfold writeReg
  split
  · exact ⟨s.gpr, rfl⟩
  · exact ⟨_, rfl⟩

end Sys2Proof.Machine
end

