-- ==== Sys2Proof/Laws/Ops.lean ====
section
/-! SUPPORT. The shared operations: registers, how an instruction ends, exception entry and return. -/

namespace Sys2Proof.Machine

open Sys2Proof

@[simp] theorem readReg_zero (s : State) : readReg s 0 = 0 := rfl

/-- A register read after a register write (R21). -/
theorem readReg_writeReg (s : State) (r q : Reg) (v : Word) :
    readReg (writeReg s r v) q = if q = 0 then 0 else if q = r then v else readReg s q := by
  unfold readReg writeReg
  by_cases hq : q = 0
  · simp only [hq, if_true]
  · by_cases hr : r = 0
    · have : q ≠ r := fun h => hq (h.trans hr)
      simp only [hq, hr, if_true, if_false]
    · by_cases h : q = r
      · subst h
        simp only [hq, if_true, if_false, Vector.getElem_set_self]
      · have hne : r.toNat ≠ q.toNat := fun e => h (BitVec.eq_of_toNat_eq e.symm)
        simp only [hq, hr, h, if_false, Vector.getElem_set_ne _ _ hne]

/-- A register read depends on the registers alone. -/
theorem readReg_congr {s t : State} (h : s.gpr = t.gpr) (r : Reg) : readReg s r = readReg t r := by
  unfold readReg
  simp only [h]

/-- What the shared end of a register instruction does: once, for all of them (R21, R25). -/
theorem finish_spec (s : State) (rd : Reg) (v : Word) :
    ∃ g, finish s rd v = .next { s with gpr := g, pc := s.pc + 4 } ∧
      ∀ r, readReg { s with gpr := g, pc := s.pc + 4 } r = if r = 0 then 0 else if r = rd then v else readReg s r := by
  obtain ⟨g, hg⟩ := writeReg_eq s rd v
  refine ⟨g, ?_, fun r => ?_⟩
  · simp [finish, hg, advance, goto]
  · rw [← readReg_writeReg s rd r v, hg]
    exact readReg_congr rfl r

/-- How an instruction can end in a next state through `settle`: with the value, or by the exception (R11, R402). -/
theorem settle_next {α : Type} {s t : State} {x : Res α} {k : α → Out} (h : settle s x k = .next t) :
    (∃ a, x = .ok a ∧ k a = .next t) ∨ ∃ e, x = .raise e ∧ t = enter e s := by
  cases x with
  | ok a => exact .inl ⟨a, rfl, h⟩
  | raise e => exact .inr ⟨e, rfl, by simpa [settle] using h.symm⟩
  | fault f => simp [settle] at h
  | refuse r => simp [settle] at h

@[simp] theorem settle_ok {α : Type} (s : State) (a : α) (k : α → Out) : settle s (.ok a) k = k a := rfl
@[simp] theorem settle_raise {α : Type} (s : State) (e : Exc) (k : α → Out) :
    settle s (.raise e) k = .next (enter e s) := rfl
@[simp] theorem settle_fault {α : Type} (s : State) (f : Fault) (k : α → Out) :
    settle s (.fault f) k = .fault f := rfl
@[simp] theorem settle_refuse {α : Type} (s : State) (r : Refusal) (k : α → Out) :
    settle s (.refuse r) k = .refused r := rfl

@[simp] theorem andThen_ok {α β : Type} (a : α) (k : α → Res β) : (Res.ok a).andThen k = k a := rfl
@[simp] theorem andThen_raise {α β : Type} (e : Exc) (k : α → Res β) : (Res.raise e).andThen k = .raise e := rfl
@[simp] theorem andThen_fault {α β : Type} (f : Fault) (k : α → Res β) : (Res.fault f).andThen k = .fault f := rfl
@[simp] theorem andThen_refuse {α β : Type} (r : Refusal) (k : α → Res β) :
    (Res.refuse r).andThen k = .refuse r := rfl

/-- A sequence gives a value when its first part does and its second part does. -/
theorem andThen_ok_iff {α β : Type} (x : Res α) (k : α → Res β) (b : β) :
    x.andThen k = .ok b ↔ ∃ a, x = .ok a ∧ k a = .ok b := by
  cases x <;> simp [Res.andThen]

/-- A sequence raises when its first part does, or its second part. -/
theorem andThen_raise_iff {α β : Type} (x : Res α) (k : α → Res β) (e : Exc) :
    x.andThen k = .raise e ↔ x = .raise e ∨ ∃ a, x = .ok a ∧ k a = .raise e := by
  cases x <;> simp [Res.andThen]

/-- A privileged instruction at a level other than PLV0 (R343). -/
theorem privileged_user (s : State) (k : Out) (h : crmdPlv s.csr ≠ 0) : privileged s k = .next (enter .ipe s) :=
  if_pos h

/-- A privileged instruction at PLV0. -/
theorem privileged_kernel (s : State) (k : Out) (h : crmdPlv s.csr = 0) : privileged s k = k := by
  simp [privileged, h]

/-- How a privileged instruction ends in a next state. -/
theorem privileged_next {s t : State} {k : Out} (h : privileged s k = .next t) :
    (crmdPlv s.csr = 0 ∧ k = .next t) ∨ (crmdPlv s.csr ≠ 0 ∧ t = enter .ipe s) := by
  by_cases hp : crmdPlv s.csr = 0
  · exact .inl ⟨hp, by rwa [privileged_kernel s k hp] at h⟩
  · rw [privileged_user s k hp] at h
    exact .inr ⟨hp, by simpa using h.symm⟩

@[simp] theorem readReg_advance (s : State) (r : Reg) : readReg (advance s) r = readReg s r := rfl
@[simp] theorem readReg_goto (s : State) (w : Word) (r : Reg) : readReg (goto s w) r = readReg s r := rfl
@[simp] theorem readReg_enter (e : Exc) (s : State) (r : Reg) : readReg (enter e s) r = readReg s r := rfl
@[simp] theorem readReg_drawn (s : State) (r : Reg) : readReg (drawn s) r = readReg s r := rfl
@[simp] theorem readReg_storeAt (s : State) (pa : Nat) (mat : BitVec 2) (w : Width) (v : Word) (r : Reg) :
    readReg (storeAt s pa mat w v) r = readReg s r := rfl

/-- Reading the fields that exception entry writes (R420). -/
theorem enterCsrs_crmd (e : Exc) (pc : Word) (c : Csrs) :
    (enterCsrs e pc c).crmd
      = if isRefill e then setBits 4 (0#1) (setBits 3 (1#1) (setBits 2 (0#1) (setBits 0 (0#2) c.crmd)))
        else setBits 2 (0#1) (setBits 0 (0#2) c.crmd) := rfl

/-- Exception entry goes to PLV0 (R420, R435). -/
@[simp] theorem crmdPlv_enter (e : Exc) (s : State) : crmdPlv (enter e s).csr = 0 := by
  simp only [crmdPlv, enter, enterCsrs_crmd]
  split
  · rw [bits_setBits_of_disjoint _ _ _ _ _ (by omega), bits_setBits_of_disjoint _ _ _ _ _ (by omega),
      bits_setBits_of_disjoint _ _ _ _ _ (by omega), bits_setBits _ _ _ (by omega)]
    rfl
  · rw [bits_setBits_of_disjoint _ _ _ _ _ (by omega), bits_setBits _ _ _ (by omega)]
    rfl

end Sys2Proof.Machine
end

