-- ==== Sys2Proof/Laws/Store.lean ====
section
/-! SUPPORT. Sorted lists by key, and memory: what a read gives after a write, and that every memory operation keeps the
canonical form. -/

namespace Sys2Proof.Machine

open Sys2Proof

variable {β : Type}

theorem lookupKey_insertKey_same (k : Nat) (x : β) (l : List (Nat × β)) :
    lookupKey k (insertKey k x l) = some x := by
  induction l with
  | nil => simp [insertKey, lookupKey]
  | cons p t ih =>
    obtain ⟨a, y⟩ := p
    unfold insertKey
    split
    · simp [lookupKey]
    · split
      · simp [lookupKey]
      · next h2 => simp [lookupKey, h2, ih]

theorem lookupKey_insertKey_other (j k : Nat) (x : β) (l : List (Nat × β)) (h : j ≠ k) :
    lookupKey j (insertKey k x l) = lookupKey j l := by
  induction l with
  | nil => simp [insertKey, lookupKey, Ne.symm h]
  | cons p t ih =>
    obtain ⟨a, y⟩ := p
    unfold insertKey
    split
    · simp [lookupKey, Ne.symm h]
    · split
      · next h2 =>
        subst h2
        simp [lookupKey, Ne.symm h]
      · simp [lookupKey, ih]

theorem lookupKey_eraseKey_other (j k : Nat) (l : List (Nat × β)) (h : j ≠ k) :
    lookupKey j (eraseKey k l) = lookupKey j l := by
  induction l with
  | nil => rfl
  | cons p t ih =>
    obtain ⟨a, y⟩ := p
    unfold eraseKey
    split
    · next h2 =>
      subst h2
      simp [lookupKey, Ne.symm h]
    · simp [lookupKey, ih]

/-- A list rising above a bound rises above a smaller one. -/
theorem risingFrom_mono (l : List (Nat × β)) (a b : Nat) (h : a ≤ b) (hl : risingFrom (some b) l = true) :
    risingFrom (some a) l = true := by
  cases l with
  | nil => rfl
  | cons p t =>
    simp only [risingFrom, Bool.and_eq_true, decide_eq_true_eq] at hl ⊢
    exact ⟨by omega, hl.2⟩

theorem risingFrom_none (l : List (Nat × β)) (a : Nat) (hl : risingFrom (some a) l = true) :
    risingFrom none l = true := by
  cases l with
  | nil => rfl
  | cons p t =>
    simp only [risingFrom, Bool.and_eq_true, decide_eq_true_eq] at hl ⊢
    exact ⟨trivial, hl.2⟩

/-- A key not above the bound of a rising list is not in it. -/
theorem lookupKey_of_rising (l : List (Nat × β)) (a k : Nat) (hl : risingFrom (some a) l = true) (h : k ≤ a) :
    lookupKey k l = none := by
  induction l generalizing a with
  | nil => rfl
  | cons p t ih =>
    simp only [risingFrom, Bool.and_eq_true, decide_eq_true_eq] at hl
    have : p.1 ≠ k := by omega
    simp only [lookupKey, this, if_false]
    exact ih p.1 hl.2 (by omega)

theorem lookupKey_eraseKey_same (k : Nat) (l : List (Nat × β)) (hl : risingFrom none l = true) :
    lookupKey k (eraseKey k l) = none := by
  induction l with
  | nil => rfl
  | cons p t ih =>
    obtain ⟨a, y⟩ := p
    simp only [risingFrom, Bool.true_and] at hl
    unfold eraseKey
    split
    · next h2 =>
      subst h2
      exact lookupKey_of_rising t a a hl (Nat.le_refl a)
    · next h2 =>
      simp only [lookupKey, h2, if_false]
      exact ih (risingFrom_none t a hl)

theorem risingFrom_insertKey (lo : Option Nat) (k : Nat) (x : β) (l : List (Nat × β))
    (hl : risingFrom lo l = true) (hk : ∀ b, lo = some b → b < k) : risingFrom lo (insertKey k x l) = true := by
  induction l generalizing lo with
  | nil =>
    cases lo with
    | none => rfl
    | some b => simp [insertKey, risingFrom, hk b rfl]
  | cons p t ih =>
    obtain ⟨a, y⟩ := p
    simp only [risingFrom, Bool.and_eq_true] at hl
    unfold insertKey
    split
    · next h1 =>
      simp only [risingFrom, Bool.and_eq_true, decide_eq_true_eq]
      refine ⟨?_, h1, hl.2⟩
      cases lo with
      | none => rfl
      | some b => simp [hk b rfl]
    · split
      · next h1 h2 =>
        subst h2
        simp only [risingFrom, Bool.and_eq_true]
        exact hl
      · next h1 h2 =>
        simp only [risingFrom, Bool.and_eq_true]
        exact ⟨hl.1, ih (some a) hl.2 (by intro b hb; cases hb; omega)⟩

theorem risingFrom_eraseKey (lo : Option Nat) (k : Nat) (l : List (Nat × β))
    (hl : risingFrom lo l = true) : risingFrom lo (eraseKey k l) = true := by
  induction l generalizing lo with
  | nil => rfl
  | cons p t ih =>
    obtain ⟨a, y⟩ := p
    simp only [risingFrom, Bool.and_eq_true] at hl
    unfold eraseKey
    split
    · cases lo with
      | none => exact risingFrom_none t a hl.2
      | some b =>
        have hb : b < a := by simpa using hl.1
        exact risingFrom_mono t b a (by omega) hl.2
    · simp only [risingFrom, Bool.and_eq_true]
      exact ⟨hl.1, ih (some a) hl.2⟩

theorem mem_insertKey (k : Nat) (x : β) (l : List (Nat × β)) (p : Nat × β) (h : p ∈ insertKey k x l) :
    p = (k, x) ∨ p ∈ l := by
  induction l with
  | nil => simpa [insertKey] using h
  | cons q t ih =>
    obtain ⟨a, y⟩ := q
    unfold insertKey at h
    split at h
    · simpa using h
    · split at h
      · rcases List.mem_cons.mp h with h | h
        · exact .inl h
        · exact .inr (List.mem_cons_of_mem _ h)
      · rcases List.mem_cons.mp h with h | h
        · exact .inr (h ▸ List.mem_cons_self)
        · rcases ih h with h | h
          · exact .inl h
          · exact .inr (List.mem_cons_of_mem _ h)

theorem mem_eraseKey (k : Nat) (l : List (Nat × β)) (p : Nat × β) (h : p ∈ eraseKey k l) : p ∈ l := by
  induction l with
  | nil => exact h
  | cons q t ih =>
    obtain ⟨a, y⟩ := q
    unfold eraseKey at h
    split at h
    · exact List.mem_cons_of_mem _ h
    · rcases List.mem_cons.mp h with h | h
      · exact h ▸ List.mem_cons_self
      · exact List.mem_cons_of_mem _ (ih h)

/-- Mapping values and keeping keys keeps the order. -/
theorem risingFrom_map (f : Nat × β → Nat × β) (hf : ∀ p, (f p).1 = p.1) (lo : Option Nat) (l : List (Nat × β))
    (hl : risingFrom lo l = true) : risingFrom lo (l.map f) = true := by
  induction l generalizing lo with
  | nil => rfl
  | cons p t ih =>
    simp only [risingFrom, Bool.and_eq_true] at hl
    simp only [List.map_cons, risingFrom, Bool.and_eq_true, hf]
    exact ⟨hl.1, ih _ hl.2⟩

/-- Dropping entries keeps the order. -/
theorem risingFrom_filter (q : Nat × β → Bool) (lo : Option Nat) (l : List (Nat × β))
    (hl : risingFrom lo l = true) : risingFrom lo (l.filter q) = true := by
  induction l generalizing lo with
  | nil => rfl
  | cons p t ih =>
    simp only [risingFrom, Bool.and_eq_true] at hl
    rw [List.filter_cons]
    split
    · simp only [risingFrom, Bool.and_eq_true]
      exact ⟨hl.1, ih _ hl.2⟩
    · apply ih
      cases lo with
      | none => exact risingFrom_none t p.1 hl.2
      | some b =>
        have hb : b < p.1 := by simpa using hl.1
        exact risingFrom_mono t b p.1 (by omega) hl.2

/-- The canonical form, in two parts. -/
theorem Memory.wf_iff (m : Memory) :
    Memory.wf m = true ↔ risingFrom none m = true ∧ ∀ c ∈ m, c.2 ≠ unlistedByte := by
  simp [Memory.wf]

/-- A byte written keeps the canonical form. -/
theorem wf_writeByte (m : Memory) (pa : Nat) (b : Byte) (h : Memory.wf m = true) :
    Memory.wf (writeByte m pa b) = true := by
  rw [Memory.wf_iff] at h ⊢
  unfold writeByte
  split
  · exact ⟨risingFrom_eraseKey _ _ _ h.1, fun c hc => h.2 c (mem_eraseKey _ _ _ hc)⟩
  · next hb =>
    refine ⟨risingFrom_insertKey _ _ _ _ h.1 (by simp), fun c hc => ?_⟩
    rcases mem_insertKey _ _ _ _ hc with h' | h'
    · rw [h']; exact hb
    · exact h.2 c h'

/-- A store of any width keeps the canonical form. -/
theorem wf_writeLE (m : Memory) (pa n : Nat) (v : Word) (h : Memory.wf m = true) :
    Memory.wf (writeLE m pa n v) = true := by
  induction n generalizing m pa v with
  | zero => exact h
  | succ n ih => exact ih _ _ _ (wf_writeByte m pa _ h)

/-- A byte read back. -/
theorem readByte_writeByte_same (m : Memory) (pa : Nat) (b : Byte) (h : Memory.wf m = true) :
    readByte (writeByte m pa b) pa = b := by
  rw [Memory.wf_iff] at h
  by_cases hb : b = unlistedByte
  · simp only [readByte, writeByte, hb, if_true, lookupKey_eraseKey_same _ _ h.1]
  · simp only [readByte, writeByte, hb, if_false, lookupKey_insertKey_same]

/-- Every other byte stays. -/
theorem readByte_writeByte_other (m : Memory) (pa a : Nat) (b : Byte) (h : a ≠ pa) :
    readByte (writeByte m pa b) a = readByte m a := by
  by_cases hb : b = unlistedByte
  · simp only [readByte, writeByte, hb, if_true, lookupKey_eraseKey_other _ _ _ h]
  · simp only [readByte, writeByte, hb, if_false, lookupKey_insertKey_other _ _ _ _ h]

/-- A store leaves every byte outside it. -/
theorem readByte_writeLE_outside (m : Memory) (pa n a : Nat) (v : Word) (h : a < pa ∨ pa + n ≤ a) :
    readByte (writeLE m pa n v) a = readByte m a := by
  induction n generalizing m pa v with
  | zero => rfl
  | succ n ih =>
    simp only [writeLE]
    rw [ih _ _ _ (by omega), readByte_writeByte_other _ _ _ _ (by omega)]

/-- A store puts byte k of the value at `pa + k` (R104). -/
theorem readByte_writeLE (m : Memory) (pa n k : Nat) (v : Word) (h : Memory.wf m = true) (hk : k < n) :
    readByte (writeLE m pa n v) (pa + k) = v.extractLsb' (8 * k) 8 := by
  induction n generalizing m pa v k with
  | zero => omega
  | succ n ih =>
    simp only [writeLE]
    cases k with
    | zero =>
      rw [readByte_writeLE_outside _ _ _ _ _ (by omega)]
      simp only [Nat.add_zero, readByte_writeByte_same _ _ _ h]
      apply BitVec.eq_of_getLsbD_eq
      intro i hi
      simp [hi]
    | succ k =>
      have e : pa + (k + 1) = pa + 1 + k := by omega
      rw [e, ih _ _ _ _ (wf_writeByte m pa _ h) (by omega)]
      apply BitVec.eq_of_getLsbD_eq
      intro i hi
      simp only [BitVec.getLsbD_extractLsb', BitVec.getLsbD_ushiftRight]
      congr 2
      omega

/-- A range exists when each of its bytes does (R114). -/
theorem physRange_iff (c : Config.Params) (pa n : Nat) : physRange c pa n = true ↔ ∀ j, j < n → physExists c (pa + j) = true := by
  induction n generalizing pa with
  | zero => simp [physRange]
  | succ n ih =>
    simp only [physRange, Bool.and_eq_true, ih]
    constructor
    · rintro ⟨h1, h2⟩ j hj
      cases j with
      | zero => exact h1
      | succ j => rw [← h2 j (by omega)]; congr 1; omega
    · intro h
      exact ⟨h 0 (by omega), fun j hj => by rw [← h (j + 1) (by omega)]; congr 1; omega⟩

/-- A lookup after a map that keeps the keys. -/
theorem lookupKey_map {β : Type} (f : Nat × β → Nat × β) (hf : ∀ p, (f p).1 = p.1) (k : Nat) (l : List (Nat × β)) :
    lookupKey k (l.map f) = (lookupKey k l).map (fun x => (f (k, x)).2) := by
  induction l with
  | nil => rfl
  | cons p t ih =>
    obtain ⟨a, x⟩ := p
    simp only [List.map_cons]
    rw [show f (a, x) = ((f (a, x)).1, (f (a, x)).2) from rfl, hf]
    simp only [lookupKey]
    by_cases h : a = k
    · subst h; simp
    · simp [h, ih]

/-- What a lookup finds is in the list. -/
theorem mem_of_lookupKey {β : Type} (l : List (Nat × β)) (k : Nat) (x : β) (h : lookupKey k l = some x) : (k, x) ∈ l := by
  induction l with
  | nil => cases h
  | cons p t ih =>
    obtain ⟨a, y⟩ := p
    simp only [lookupKey] at h
    by_cases e : a = k
    · subst e; simp at h; simp [h]
    · simp [e] at h; simp [ih h]

/-- What is in a rising list, a lookup finds. -/
theorem lookupKey_of_mem {β : Type} (l : List (Nat × β)) (lo : Option Nat) (k : Nat) (x : β)
    (hl : risingFrom lo l = true) (h : (k, x) ∈ l) : lookupKey k l = some x := by
  induction l generalizing lo with
  | nil => cases h
  | cons p t ih =>
    obtain ⟨a, y⟩ := p
    simp only [risingFrom, Bool.and_eq_true] at hl
    simp only [lookupKey]
    rcases List.mem_cons.1 h with h | h
    · cases h; simp
    · have := ih (some a) hl.2 h
      by_cases e : a = k
      · subst e
        rw [lookupKey_of_rising t a a hl.2 (Nat.le_refl a)] at this; cases this
      · simp [e, this]

/-- A lookup after a filter of a rising list. -/
theorem lookupKey_filter {β : Type} (q : Nat × β → Bool) (k : Nat) (l : List (Nat × β)) (lo : Option Nat)
    (hl : risingFrom lo l = true) :
    lookupKey k (l.filter q) = (lookupKey k l).filter fun x => q (k, x) := by
  induction l generalizing lo with
  | nil => rfl
  | cons p t ih =>
    obtain ⟨a, y⟩ := p
    simp only [risingFrom, Bool.and_eq_true] at hl
    by_cases e : a = k
    · subst e
      have none_later : lookupKey a (t.filter q) = none := by
        rw [ih _ hl.2, lookupKey_of_rising t a a hl.2 (Nat.le_refl a)]; rfl
      cases hq : q (a, y) <;> simp [lookupKey, hq, none_later, Option.filter]
    · cases hq : q (a, y) <;> simp [lookupKey, hq, e, ih _ hl.2]

end Sys2Proof.Machine
end

