-- ==== Sys2Proof/Laws/Access.lean ====
section
/-! SUPPORT. Translation, the data accesses and the `stale` record: what each answers, once. -/

namespace Sys2Proof.Machine

open Sys2Proof

/-- Direct mode translates to the virtual address itself (R121). -/
theorem translate_direct (s : State) (va : Word) (k : Access) (h : directMode s.csr = true) :
    translate s va k = .ok (directAddress s.cfg va, directMat s.csr k) := by
  simp [translate, h]

/-- The two modes exclude each other. -/
theorem directMode_of_mapped (c : Csrs) (h : mappedMode c = true) : directMode c = false := by
  simp only [mappedMode, directMode, Bool.and_eq_true, Bool.not_eq_true'] at h ⊢
  simp [h.1]

/-- Mapped mode: DMW0, then DMW1, then the TLB (R120, R123). -/
theorem translate_mapped (s : State) (va : Word) (k : Access) (h : mappedMode s.csr = true) :
    translate s va k
      = if windowHit s.csr s.csr.dmw0 va then .ok (windowAddress s.cfg s.csr.dmw0 va, dmwMat s.csr.dmw0)
        else if windowHit s.csr s.csr.dmw1 va then .ok (windowAddress s.cfg s.csr.dmw1 va, dmwMat s.csr.dmw1)
        else tlbTranslate s va k := by
  simp [translate, h, directMode_of_mapped s.csr h]

/-- No address error in direct mode (R112). -/
theorem userRangeError_direct (s : State) (va : Word) (h : directMode s.csr = true) :
    userRangeError s va = false := by
  simp only [directMode, Bool.and_eq_true, Bool.not_eq_true'] at h
  simp [userRangeError, mappedMode, h.1]

/-- When the checks of an address succeed (R112, R120, R142). -/
theorem resolve_ok_iff (s : State) (va : Word) (k : Access) (p : Nat × BitVec 2) :
    resolve s va k = .ok p ↔
      userRangeError s va = false ∧ translate s va k = .ok p ∧ (p.2 = matSuc ∨ p.2 = matCc) := by
  unfold resolve
  cases userRangeError s va with
  | true => simp
  | false =>
    simp only [Bool.false_eq_true, if_false, true_and]
    rw [andThen_ok_iff]
    constructor
    · rintro ⟨a, h1, h2⟩
      split at h2
      · next h => cases h2; exact ⟨h1, h⟩
      · cases h2
    · rintro ⟨h1, h2⟩
      exact ⟨p, h1, by rw [if_pos h2]⟩

/-- When the checks of a data access succeed (R110, R114, R354). -/
theorem dataAccess_ok_iff (s : State) (w : Width) (va : Word) (k : Access) (p : Nat × BitVec 2) :
    dataAccess s w va k = .ok p ↔
      aligned w va = true ∧ resolve s va k = .ok p ∧ physRange s.cfg p.1 (widthBytes w) = true ∧
        ¬ (p.2 = matSuc ∧ anyStale s StaleFlags.needWb p.1 (widthBytes w) = true) := by
  unfold dataAccess
  cases aligned w va with
  | false => simp
  | true =>
    simp only [if_true, true_and]
    rw [andThen_ok_iff]
    constructor
    · rintro ⟨a, h1, h2⟩
      split at h2
      · cases h2
      · next h3 =>
        split at h2
        · cases h2
        · next h4 =>
          cases h2
          exact ⟨h1, by simpa using h3, h4⟩
    · rintro ⟨h1, h2, h3⟩
      exact ⟨p, h1, by rw [if_neg (by simp [h2]), if_neg h3]⟩

/-- A misaligned data access (R108). -/
theorem dataAccess_misaligned (s : State) (w : Width) (va : Word) (k : Access) (h : aligned w va = false) :
    dataAccess s w va k = .raise (.ale va) := by
  simp [dataAccess, h]

/-- What a load gives (R110). -/
theorem load_of_access {s : State} {w : Width} {va : Word} {p : Nat × BitVec 2}
    (h : dataAccess s w va .load = .ok p) : load s w va = .ok (readLE s.mem p.1 (widthBytes w)) := by
  simp [load, h]

/-- What a store gives (R110). -/
theorem store_of_access {s : State} {w : Width} {va v : Word} {p : Nat × BitVec 2}
    (h : dataAccess s w va .store = .ok p) : store s w va v = .ok (storeAt s p.1 p.2 w v) := by
  simp [store, h]

/-- A store that succeeds is a `storeAt` of a checked access. -/
theorem store_ok {s t : State} {w : Width} {va v : Word} (h : store s w va v = .ok t) :
    ∃ p, dataAccess s w va .store = .ok p ∧ t = storeAt s p.1 p.2 w v := by
  obtain ⟨p, h1, h2⟩ := (andThen_ok_iff _ _ _).1 h
  exact ⟨p, h1, by simpa using h2.symm⟩

/-- The little-endian value of two bytes (R104). -/
theorem readLE_half (m : Memory) (pa : Nat) :
    readLE m pa 2 = (readByte m (pa + 1) ++ readByte m pa).setWidth 32 := by
  apply BitVec.eq_of_getLsbD_eq
  intro i hi
  simp only [readLE, zext, BitVec.getLsbD_or, BitVec.getLsbD_setWidth, BitVec.getLsbD_shiftLeft,
    BitVec.getLsbD_append, hi, decide_true, Bool.true_and]
  by_cases h : i < 8
  · simp [h]
  · have h1 : (readByte m pa).getLsbD i = false := BitVec.getLsbD_of_ge _ _ (by omega)
    have h2 : i - 8 < 32 := by omega
    simp [h, h1, h2]

/-- The little-endian value of four bytes (R104). -/
theorem readLE_word (m : Memory) (pa : Nat) :
    readLE m pa 4 = readByte m (pa + 3) ++ readByte m (pa + 2) ++ readByte m (pa + 1) ++ readByte m pa := by
  have hz : ∀ (b : Byte) (j : Nat), 8 ≤ j → b.getLsbD j = false := fun b j hj => BitVec.getLsbD_of_ge _ _ hj
  apply BitVec.eq_of_getLsbD_eq
  intro i hi
  simp only [readLE, zext, BitVec.getLsbD_or, BitVec.getLsbD_setWidth, BitVec.getLsbD_shiftLeft,
    BitVec.getLsbD_append, hi, decide_true, Bool.true_and, Nat.add_assoc]
  by_cases h0 : i < 8
  · simp [h0]
  · rw [hz (readByte m pa) i (by omega)]
    by_cases h1 : i - 8 < 8
    · simp [h0, h1, (by omega : i - 8 < 32)]
    · rw [hz (readByte m (pa + 1)) (i - 8) (by omega)]
      by_cases h2 : i - 8 - 8 < 8
      · simp [h0, h1, h2, (by omega : i - 8 < 32), (by omega : i - 8 - 8 < 32)]
      · rw [hz (readByte m (pa + (1 + 1))) (i - 8 - 8) (by omega)]
        simp [h0, h1, h2, (by omega : i - 8 < 32), (by omega : i - 8 - 8 < 32), (by omega : i - 8 - 8 - 8 < 32)]

/-- The value of one byte. -/
theorem readLE_byte (m : Memory) (pa : Nat) : readLE m pa 1 = (readByte m pa).setWidth 32 := by
  simp [readLE, zext]

/-- A store's marks keep the record's order. -/
theorem rising_markStale (mat : BitVec 2) (st : List (Nat × StaleFlags)) (pa n : Nat)
    (h : risingFrom none st = true) : risingFrom none (markStale mat st pa n) = true := by
  induction n generalizing st pa with
  | zero => exact h
  | succ n ih => exact ih _ _ (risingFrom_insertKey _ _ _ _ h (by simp))

/-- A store's marks, outside the stored bytes. -/
theorem lookup_markStale_outside (mat : BitVec 2) (st : List (Nat × StaleFlags)) (pa n a : Nat)
    (h : a < pa ∨ pa + n ≤ a) : lookupKey a (markStale mat st pa n) = lookupKey a st := by
  induction n generalizing st pa with
  | zero => rfl
  | succ n ih =>
    simp only [markStale]
    rw [ih _ _ (by omega), lookupKey_insertKey_other _ _ _ _ (by omega)]

/-- A store's marks, on the stored bytes (R354). -/
theorem lookup_markStale (mat : BitVec 2) (st : List (Nat × StaleFlags)) (pa n k : Nat) (hk : k < n) :
    lookupKey (pa + k) (markStale mat st pa n)
      = some { needWb := mat == matCc, needInv := true, needIbar := true } := by
  induction n generalizing st pa k with
  | zero => omega
  | succ n ih =>
    simp only [markStale]
    cases k with
    | zero => rw [lookup_markStale_outside _ _ _ _ _ (by omega)]; exact lookupKey_insertKey_same _ _ _
    | succ k => rw [show pa + (k + 1) = pa + 1 + k by omega]; exact ih _ _ _ (by omega)

/-- The maintenance operations keep the record's order. -/
theorem rising_clearNeedWb (cfg : Config.Params) (pa : Nat) (st : List (Nat × StaleFlags))
    (h : risingFrom none st = true) : risingFrom none (clearNeedWb cfg pa st) = true :=
  risingFrom_map _ (fun p => by dsimp only; split <;> rfl) _ _ h

theorem rising_clearNeedInv (cfg : Config.Params) (pa : Nat) (st : List (Nat × StaleFlags))
    (h : risingFrom none st = true) : risingFrom none (clearNeedInv cfg pa st) = true :=
  risingFrom_map _ (fun p => by dsimp only; split <;> rfl) _ _ h

theorem rising_clearNeedIbar (st : List (Nat × StaleFlags)) (h : risingFrom none st = true) :
    risingFrom none (clearNeedIbar st) = true :=
  risingFrom_filter _ _ _ (risingFrom_map _ (fun p => by dsimp only; split <;> rfl) _ _ h)

/-- What the Hit write-back does to a byte's flags (R354): `need_wb` cleared on the line, nothing elsewhere. -/
theorem lookup_clearNeedWb (cfg : Config.Params) (pa a : Nat) (st : List (Nat × StaleFlags)) :
    lookupKey a (clearNeedWb cfg pa st)
      = (lookupKey a st).map fun f => if lineOf cfg a = lineOf cfg pa then { f with needWb := false } else f := by
  rw [clearNeedWb, lookupKey_map _ (fun p => by dsimp only; split <;> rfl)]
  congr 1; funext f; dsimp only; split <;> rfl

/-- What the Hit invalidation does to a byte's flags (R354): `need_inv` cleared on the line where `need_wb` is clear. -/
theorem lookup_clearNeedInv (cfg : Config.Params) (pa a : Nat) (st : List (Nat × StaleFlags)) :
    lookupKey a (clearNeedInv cfg pa st)
      = (lookupKey a st).map fun f =>
          if lineOf cfg a = lineOf cfg pa ∧ f.needWb = false then { f with needInv := false } else f := by
  rw [clearNeedInv, lookupKey_map _ (fun p => by dsimp only; split <;> rfl)]
  congr 1; funext f; dsimp only; split <;> rfl

/-- What IBAR does to a byte's flags (R354): `need_ibar` cleared where `need_wb` is clear, and the byte leaves the record
when no flag is left. -/
theorem lookup_clearNeedIbar (st : List (Nat × StaleFlags)) (a : Nat) (h : risingFrom none st = true) :
    lookupKey a (clearNeedIbar st)
      = (lookupKey a st).bind fun f =>
          if f.needWb then some f else if f.needInv then some { f with needIbar := false } else none := by
  rw [clearNeedIbar, dropClean,
    lookupKey_filter _ _ _ none (risingFrom_map _ (fun p => by dsimp only; split <;> rfl) _ _ h),
    lookupKey_map _ (fun p => by dsimp only; split <;> rfl)]
  cases lookupKey a st with
  | none => rfl
  | some f => obtain ⟨wb, inv, ib⟩ := f; cases wb <;> cases inv <;> simp [Option.filter]

/-- A store keeps the canonical form of memory and the order of the record. -/
theorem storeAt_wf (s : State) (pa : Nat) (mat : BitVec 2) (w : Width) (v : Word)
    (h : Memory.wf s.mem = true) : Memory.wf (storeAt s pa mat w v).mem = true :=
  wf_writeLE _ _ _ _ h

/-- Some byte of a range has a flag (R354). -/
theorem anyStale_iff (s : State) (f : StaleFlags → Bool) (pa n : Nat) : anyStale s f pa n = true ↔ ∃ j, j < n ∧ f (staleAt s (pa + j)) = true := by
  induction n generalizing pa with
  | zero => simp [anyStale]
  | succ n ih =>
    simp only [anyStale, Bool.or_eq_true, ih]
    constructor
    · rintro (h | ⟨j, hj, h⟩)
      · exact ⟨0, by omega, h⟩
      · exact ⟨j + 1, by omega, by rw [← h]; congr 2; omega⟩
    · rintro ⟨j, hj, h⟩
      cases j with
      | zero => exact .inl h
      | succ j => exact .inr ⟨j, by omega, by rw [← h]; congr 2; omega⟩

end Sys2Proof.Machine
end

