-- ==== Sys2Proof/Laws/Csr.lean ====
section
/-! SUPPORT. Reading and writing CSRs: what each can do, once. -/

namespace Sys2Proof.Machine

open Sys2Proof

/-- A CSR read changes nothing but the count of draws (R340). -/
theorem csrRead_state (s : State) (n : BitVec 14) :
    (csrRead s n).2 = s ∨ (csrRead s n).2 = drawn s := by
  unfold csrRead
  split
  · exact .inr rfl
  · split
    · exact .inr rfl
    · exact .inl rfl

/-- A register whose value is not free reads as its value, and nothing changes (R344). -/
theorem csrRead_value (s : State) (n : BitVec 14) (c : CsrName) (h : csrOf n = some c) (hf : readsFree s c = false) :
    csrRead s n = (csrValue s c, s) := by
  simp [csrRead, h, hf]

/-- The stored part of a register after a store of the stored part of a register that stores something. -/
theorem stored_setStored (c : Csrs) (n q : CsrName) (w : Word) (h : n ∉ [CsrName.pgd, .cpuid, .tval, .ticlr, .ctag]) :
    stored (setStored c n w) q = if q = n then w else stored c q := by
  cases n <;> cases q <;> first | rfl | (exact absurd (by decide) h)

/-- Storing the stored part changes nothing. -/
theorem setStored_self (c : Csrs) (n : CsrName) : setStored c n (stored c n) = c := by
  cases n <;> rfl

/-- Storing where nothing is stored changes nothing. -/
theorem setStored_none (c : Csrs) (n : CsrName) (w : Word) (h : n ∈ [CsrName.pgd, .cpuid, .tval, .ticlr, .ctag]) :
    setStored c n w = c := by
  cases n <;> first | rfl | (exact absurd h (by decide))

/-- Every stored part after a write (R344): the register's own is mixed under the mask of its RW bits, the others stay. -/
theorem stored_csrStored (s : State) (n q : CsrName) (v m : Word) :
    stored (csrStored s n v m) q
      = if q = n then mixBits (stored s.csr n) v (rwMask s n &&& m) else stored s.csr q := by
  by_cases h : n ∈ [CsrName.pgd, .cpuid, .tval, .ticlr, .ctag]
  · rw [csrStored, setStored_none _ _ _ h]
    split
    · next e =>
      subst e
      revert h
      cases q <;> simp [rwMask, stored, mixBits]
    · rfl
  · exact stored_setStored _ _ _ _ h

/-- A write of a number that is a register's, with a mask that is not 0. -/
theorem csrWrite_known (s : State) (n : BitVec 14) (c : CsrName) (v m : Word) (h : csrOf n = some c) (hm : m ≠ 0) :
    csrWrite s n v m = csrEffect c (v &&& m) { s with csr := csrStored s c v m } := by
  have hm' : ¬ m = 0 := hm
  simp only [csrWrite, h, if_neg hm']

/-- What the effect of a write can change beyond the stored bits: the timer by TCFG and TICLR, LLbit by LLBCTL; CRMD is
left at a legal level (R344). -/
theorem csrEffect_ok {n : CsrName} {v : Word} {s t : State} (h : csrEffect n v s = .ok t) :
    (n = .crmd → crmdPlv s.csr ≠ 1 ∧ crmdPlv s.csr ≠ 2) ∧
    ((n ≠ .tcfg ∧ n ≠ .ticlr ∧ n ≠ .llbctl ∧ t = s) ∨
     (n = .tcfg ∧ t = loadTimer s) ∨
     (n = .ticlr ∧ t = if bit 0 v then clearTimerInterrupt s else s) ∨
     (n = .llbctl ∧ t = if bit 1 v then clearLlbit s else s)) := by
  unfold csrEffect at h
  cases n <;> simp only [reduceCtorEq, false_implies, true_and, not_false_eq_true, ne_eq, false_and, or_false,
    false_or, not_true_eq_false] at h ⊢
  case crmd =>
    split at h
    · cases h
    · next hp =>
      cases h
      rw [not_or] at hp
      exact ⟨fun _ => hp, rfl⟩
  all_goals (cases h; rfl)

/-- The whole of what a CSR write can do (R57, R342, R344). -/
theorem csrWrite_ok {s t : State} {n : BitVec 14} {v m : Word} (h : csrWrite s n v m = .ok t) :
    t = s ∨ ∃ c, csrOf n = some c ∧ m ≠ 0 ∧
      csrEffect c (v &&& m) { s with csr := csrStored s c v m } = .ok t := by
  unfold csrWrite at h
  split at h
  · cases h; exact .inl rfl
  · next c hc =>
    split at h
    · cases h; exact .inl rfl
    · next hm => exact .inr ⟨c, hc, hm, h⟩

/-- Which registers read as a value that is given (R51, R55). -/
theorem readsFree_false {c : CsrName} {s : State} (h1 : c ≠ .ctag) (h2 : c = .tval → s.timer.expired = false) : readsFree s c = false := by
  cases c <;> first | rfl | exact absurd rfl h1 | exact h2 rfl

end Sys2Proof.Machine
end

