-- ==== Sys2Proof/Laws/Dispatch.lean ====
section
/-! SUPPORT. Each arm of `exec`, as an equation. -/

namespace Sys2Proof.Machine

open Sys2Proof

@[simp] theorem exec_rdcntid (rj : BitVec 5) (s : State) : exec (.rdcntid rj) s = execRdcntid rj s := rfl
@[simp] theorem exec_rdcntvlW (rd : BitVec 5) (s : State) : exec (.rdcntvlW rd) s = execRdcntvlW rd s := rfl
@[simp] theorem exec_rdcntvhW (rd : BitVec 5) (s : State) : exec (.rdcntvhW rd) s = execRdcntvhW rd s := rfl
@[simp] theorem exec_addW (rd : BitVec 5) (rj : BitVec 5) (rk : BitVec 5) (s : State) : exec (.addW rd rj rk) s = execAddW rd rj rk s := rfl
@[simp] theorem exec_subW (rd : BitVec 5) (rj : BitVec 5) (rk : BitVec 5) (s : State) : exec (.subW rd rj rk) s = execSubW rd rj rk s := rfl
@[simp] theorem exec_slt (rd : BitVec 5) (rj : BitVec 5) (rk : BitVec 5) (s : State) : exec (.slt rd rj rk) s = execSlt rd rj rk s := rfl
@[simp] theorem exec_sltu (rd : BitVec 5) (rj : BitVec 5) (rk : BitVec 5) (s : State) : exec (.sltu rd rj rk) s = execSltu rd rj rk s := rfl
@[simp] theorem exec_norR (rd : BitVec 5) (rj : BitVec 5) (rk : BitVec 5) (s : State) : exec (.norR rd rj rk) s = execNorR rd rj rk s := rfl
@[simp] theorem exec_andR (rd : BitVec 5) (rj : BitVec 5) (rk : BitVec 5) (s : State) : exec (.andR rd rj rk) s = execAndR rd rj rk s := rfl
@[simp] theorem exec_orR (rd : BitVec 5) (rj : BitVec 5) (rk : BitVec 5) (s : State) : exec (.orR rd rj rk) s = execOrR rd rj rk s := rfl
@[simp] theorem exec_xorR (rd : BitVec 5) (rj : BitVec 5) (rk : BitVec 5) (s : State) : exec (.xorR rd rj rk) s = execXorR rd rj rk s := rfl
@[simp] theorem exec_sllW (rd : BitVec 5) (rj : BitVec 5) (rk : BitVec 5) (s : State) : exec (.sllW rd rj rk) s = execSllW rd rj rk s := rfl
@[simp] theorem exec_srlW (rd : BitVec 5) (rj : BitVec 5) (rk : BitVec 5) (s : State) : exec (.srlW rd rj rk) s = execSrlW rd rj rk s := rfl
@[simp] theorem exec_sraW (rd : BitVec 5) (rj : BitVec 5) (rk : BitVec 5) (s : State) : exec (.sraW rd rj rk) s = execSraW rd rj rk s := rfl
@[simp] theorem exec_mulW (rd : BitVec 5) (rj : BitVec 5) (rk : BitVec 5) (s : State) : exec (.mulW rd rj rk) s = execMulW rd rj rk s := rfl
@[simp] theorem exec_mulhW (rd : BitVec 5) (rj : BitVec 5) (rk : BitVec 5) (s : State) : exec (.mulhW rd rj rk) s = execMulhW rd rj rk s := rfl
@[simp] theorem exec_mulhWu (rd : BitVec 5) (rj : BitVec 5) (rk : BitVec 5) (s : State) : exec (.mulhWu rd rj rk) s = execMulhWu rd rj rk s := rfl
@[simp] theorem exec_divW (rd : BitVec 5) (rj : BitVec 5) (rk : BitVec 5) (s : State) : exec (.divW rd rj rk) s = execDivW rd rj rk s := rfl
@[simp] theorem exec_modW (rd : BitVec 5) (rj : BitVec 5) (rk : BitVec 5) (s : State) : exec (.modW rd rj rk) s = execModW rd rj rk s := rfl
@[simp] theorem exec_divWu (rd : BitVec 5) (rj : BitVec 5) (rk : BitVec 5) (s : State) : exec (.divWu rd rj rk) s = execDivWu rd rj rk s := rfl
@[simp] theorem exec_modWu (rd : BitVec 5) (rj : BitVec 5) (rk : BitVec 5) (s : State) : exec (.modWu rd rj rk) s = execModWu rd rj rk s := rfl
@[simp] theorem exec_breakI (code : BitVec 15) (s : State) : exec (.breakI code) s = execBreakI code s := rfl
@[simp] theorem exec_syscallI (code : BitVec 15) (s : State) : exec (.syscallI code) s = execSyscallI code s := rfl
@[simp] theorem exec_slliW (rd : BitVec 5) (rj : BitVec 5) (ui5 : BitVec 5) (s : State) : exec (.slliW rd rj ui5) s = execSlliW rd rj ui5 s := rfl
@[simp] theorem exec_srliW (rd : BitVec 5) (rj : BitVec 5) (ui5 : BitVec 5) (s : State) : exec (.srliW rd rj ui5) s = execSrliW rd rj ui5 s := rfl
@[simp] theorem exec_sraiW (rd : BitVec 5) (rj : BitVec 5) (ui5 : BitVec 5) (s : State) : exec (.sraiW rd rj ui5) s = execSraiW rd rj ui5 s := rfl
@[simp] theorem exec_slti (rd : BitVec 5) (rj : BitVec 5) (si12 : BitVec 12) (s : State) : exec (.slti rd rj si12) s = execSlti rd rj si12 s := rfl
@[simp] theorem exec_sltui (rd : BitVec 5) (rj : BitVec 5) (si12 : BitVec 12) (s : State) : exec (.sltui rd rj si12) s = execSltui rd rj si12 s := rfl
@[simp] theorem exec_addiW (rd : BitVec 5) (rj : BitVec 5) (si12 : BitVec 12) (s : State) : exec (.addiW rd rj si12) s = execAddiW rd rj si12 s := rfl
@[simp] theorem exec_andi (rd : BitVec 5) (rj : BitVec 5) (ui12 : BitVec 12) (s : State) : exec (.andi rd rj ui12) s = execAndi rd rj ui12 s := rfl
@[simp] theorem exec_ori (rd : BitVec 5) (rj : BitVec 5) (ui12 : BitVec 12) (s : State) : exec (.ori rd rj ui12) s = execOri rd rj ui12 s := rfl
@[simp] theorem exec_xori (rd : BitVec 5) (rj : BitVec 5) (ui12 : BitVec 12) (s : State) : exec (.xori rd rj ui12) s = execXori rd rj ui12 s := rfl
@[simp] theorem exec_csrrd (rd : BitVec 5) (num : BitVec 14) (s : State) : exec (.csrrd rd num) s = execCsrrd rd num s := rfl
@[simp] theorem exec_csrwr (rd : BitVec 5) (num : BitVec 14) (s : State) : exec (.csrwr rd num) s = execCsrwr rd num s := rfl
@[simp] theorem exec_csrxchg (rd : BitVec 5) (rj : BitVec 5) (num : BitVec 14) (s : State) : exec (.csrxchg rd rj num) s = execCsrxchg rd rj num s := rfl
@[simp] theorem exec_cacop (code : BitVec 5) (rj : BitVec 5) (si12 : BitVec 12) (s : State) : exec (.cacop code rj si12) s = execCacop code rj si12 s := rfl
@[simp] theorem exec_tlbsrch (s : State) : exec (.tlbsrch) s = execTlbsrch s := rfl
@[simp] theorem exec_tlbrd (s : State) : exec (.tlbrd) s = execTlbrd s := rfl
@[simp] theorem exec_tlbwr (s : State) : exec (.tlbwr) s = execTlbwr s := rfl
@[simp] theorem exec_tlbfill (s : State) : exec (.tlbfill) s = execTlbfill s := rfl
@[simp] theorem exec_ertn (s : State) : exec (.ertn) s = execErtn s := rfl
@[simp] theorem exec_idle (level : BitVec 15) (s : State) : exec (.idle level) s = execIdle level s := rfl
@[simp] theorem exec_invtlb (op : BitVec 5) (rj : BitVec 5) (rk : BitVec 5) (s : State) : exec (.invtlb op rj rk) s = execInvtlb op rj rk s := rfl
@[simp] theorem exec_lu12iW (rd : BitVec 5) (si20 : BitVec 20) (s : State) : exec (.lu12iW rd si20) s = execLu12iW rd si20 s := rfl
@[simp] theorem exec_pcaddu12i (rd : BitVec 5) (si20 : BitVec 20) (s : State) : exec (.pcaddu12i rd si20) s = execPcaddu12i rd si20 s := rfl
@[simp] theorem exec_llW (rd : BitVec 5) (rj : BitVec 5) (si14 : BitVec 14) (s : State) : exec (.llW rd rj si14) s = execLlW rd rj si14 s := rfl
@[simp] theorem exec_scW (rd : BitVec 5) (rj : BitVec 5) (si14 : BitVec 14) (s : State) : exec (.scW rd rj si14) s = execScW rd rj si14 s := rfl
@[simp] theorem exec_ldB (rd : BitVec 5) (rj : BitVec 5) (si12 : BitVec 12) (s : State) : exec (.ldB rd rj si12) s = execLdB rd rj si12 s := rfl
@[simp] theorem exec_ldH (rd : BitVec 5) (rj : BitVec 5) (si12 : BitVec 12) (s : State) : exec (.ldH rd rj si12) s = execLdH rd rj si12 s := rfl
@[simp] theorem exec_ldW (rd : BitVec 5) (rj : BitVec 5) (si12 : BitVec 12) (s : State) : exec (.ldW rd rj si12) s = execLdW rd rj si12 s := rfl
@[simp] theorem exec_stB (rd : BitVec 5) (rj : BitVec 5) (si12 : BitVec 12) (s : State) : exec (.stB rd rj si12) s = execStB rd rj si12 s := rfl
@[simp] theorem exec_stH (rd : BitVec 5) (rj : BitVec 5) (si12 : BitVec 12) (s : State) : exec (.stH rd rj si12) s = execStH rd rj si12 s := rfl
@[simp] theorem exec_stW (rd : BitVec 5) (rj : BitVec 5) (si12 : BitVec 12) (s : State) : exec (.stW rd rj si12) s = execStW rd rj si12 s := rfl
@[simp] theorem exec_ldBu (rd : BitVec 5) (rj : BitVec 5) (si12 : BitVec 12) (s : State) : exec (.ldBu rd rj si12) s = execLdBu rd rj si12 s := rfl
@[simp] theorem exec_ldHu (rd : BitVec 5) (rj : BitVec 5) (si12 : BitVec 12) (s : State) : exec (.ldHu rd rj si12) s = execLdHu rd rj si12 s := rfl
@[simp] theorem exec_preld (hint : BitVec 5) (rj : BitVec 5) (si12 : BitVec 12) (s : State) : exec (.preld hint rj si12) s = execPreld hint rj si12 s := rfl
@[simp] theorem exec_dbar (hint : BitVec 15) (s : State) : exec (.dbar hint) s = execDbar hint s := rfl
@[simp] theorem exec_ibar (hint : BitVec 15) (s : State) : exec (.ibar hint) s = execIbar hint s := rfl
@[simp] theorem exec_jirl (rd : BitVec 5) (rj : BitVec 5) (offs16 : BitVec 16) (s : State) : exec (.jirl rd rj offs16) s = execJirl rd rj offs16 s := rfl
@[simp] theorem exec_b (offs26 : BitVec 26) (s : State) : exec (.b offs26) s = execB offs26 s := rfl
@[simp] theorem exec_bl (offs26 : BitVec 26) (s : State) : exec (.bl offs26) s = execBl offs26 s := rfl
@[simp] theorem exec_beq (rj : BitVec 5) (rd : BitVec 5) (offs16 : BitVec 16) (s : State) : exec (.beq rj rd offs16) s = execBeq rj rd offs16 s := rfl
@[simp] theorem exec_bne (rj : BitVec 5) (rd : BitVec 5) (offs16 : BitVec 16) (s : State) : exec (.bne rj rd offs16) s = execBne rj rd offs16 s := rfl
@[simp] theorem exec_blt (rj : BitVec 5) (rd : BitVec 5) (offs16 : BitVec 16) (s : State) : exec (.blt rj rd offs16) s = execBlt rj rd offs16 s := rfl
@[simp] theorem exec_bge (rj : BitVec 5) (rd : BitVec 5) (offs16 : BitVec 16) (s : State) : exec (.bge rj rd offs16) s = execBge rj rd offs16 s := rfl
@[simp] theorem exec_bltu (rj : BitVec 5) (rd : BitVec 5) (offs16 : BitVec 16) (s : State) : exec (.bltu rj rd offs16) s = execBltu rj rd offs16 s := rfl
@[simp] theorem exec_bgeu (rj : BitVec 5) (rd : BitVec 5) (offs16 : BitVec 16) (s : State) : exec (.bgeu rj rd offs16) s = execBgeu rj rd offs16 s := rfl
@[simp] theorem exec_faddS (fd : BitVec 5) (fj : BitVec 5) (fk : BitVec 5) (s : State) : exec (.faddS fd fj fk) s = execFaddS fd fj fk s := rfl
@[simp] theorem exec_faddD (fd : BitVec 5) (fj : BitVec 5) (fk : BitVec 5) (s : State) : exec (.faddD fd fj fk) s = execFaddD fd fj fk s := rfl
@[simp] theorem exec_fsubS (fd : BitVec 5) (fj : BitVec 5) (fk : BitVec 5) (s : State) : exec (.fsubS fd fj fk) s = execFsubS fd fj fk s := rfl
@[simp] theorem exec_fsubD (fd : BitVec 5) (fj : BitVec 5) (fk : BitVec 5) (s : State) : exec (.fsubD fd fj fk) s = execFsubD fd fj fk s := rfl
@[simp] theorem exec_fmulS (fd : BitVec 5) (fj : BitVec 5) (fk : BitVec 5) (s : State) : exec (.fmulS fd fj fk) s = execFmulS fd fj fk s := rfl
@[simp] theorem exec_fmulD (fd : BitVec 5) (fj : BitVec 5) (fk : BitVec 5) (s : State) : exec (.fmulD fd fj fk) s = execFmulD fd fj fk s := rfl
@[simp] theorem exec_fdivS (fd : BitVec 5) (fj : BitVec 5) (fk : BitVec 5) (s : State) : exec (.fdivS fd fj fk) s = execFdivS fd fj fk s := rfl
@[simp] theorem exec_fdivD (fd : BitVec 5) (fj : BitVec 5) (fk : BitVec 5) (s : State) : exec (.fdivD fd fj fk) s = execFdivD fd fj fk s := rfl
@[simp] theorem exec_fmaxS (fd : BitVec 5) (fj : BitVec 5) (fk : BitVec 5) (s : State) : exec (.fmaxS fd fj fk) s = execFmaxS fd fj fk s := rfl
@[simp] theorem exec_fmaxD (fd : BitVec 5) (fj : BitVec 5) (fk : BitVec 5) (s : State) : exec (.fmaxD fd fj fk) s = execFmaxD fd fj fk s := rfl
@[simp] theorem exec_fminS (fd : BitVec 5) (fj : BitVec 5) (fk : BitVec 5) (s : State) : exec (.fminS fd fj fk) s = execFminS fd fj fk s := rfl
@[simp] theorem exec_fminD (fd : BitVec 5) (fj : BitVec 5) (fk : BitVec 5) (s : State) : exec (.fminD fd fj fk) s = execFminD fd fj fk s := rfl
@[simp] theorem exec_fmaxaS (fd : BitVec 5) (fj : BitVec 5) (fk : BitVec 5) (s : State) : exec (.fmaxaS fd fj fk) s = execFmaxaS fd fj fk s := rfl
@[simp] theorem exec_fmaxaD (fd : BitVec 5) (fj : BitVec 5) (fk : BitVec 5) (s : State) : exec (.fmaxaD fd fj fk) s = execFmaxaD fd fj fk s := rfl
@[simp] theorem exec_fminaS (fd : BitVec 5) (fj : BitVec 5) (fk : BitVec 5) (s : State) : exec (.fminaS fd fj fk) s = execFminaS fd fj fk s := rfl
@[simp] theorem exec_fminaD (fd : BitVec 5) (fj : BitVec 5) (fk : BitVec 5) (s : State) : exec (.fminaD fd fj fk) s = execFminaD fd fj fk s := rfl
@[simp] theorem exec_fcopysignS (fd : BitVec 5) (fj : BitVec 5) (fk : BitVec 5) (s : State) : exec (.fcopysignS fd fj fk) s = execFcopysignS fd fj fk s := rfl
@[simp] theorem exec_fcopysignD (fd : BitVec 5) (fj : BitVec 5) (fk : BitVec 5) (s : State) : exec (.fcopysignD fd fj fk) s = execFcopysignD fd fj fk s := rfl
@[simp] theorem exec_fabsS (fd : BitVec 5) (fj : BitVec 5) (s : State) : exec (.fabsS fd fj) s = execFabsS fd fj s := rfl
@[simp] theorem exec_fabsD (fd : BitVec 5) (fj : BitVec 5) (s : State) : exec (.fabsD fd fj) s = execFabsD fd fj s := rfl
@[simp] theorem exec_fnegS (fd : BitVec 5) (fj : BitVec 5) (s : State) : exec (.fnegS fd fj) s = execFnegS fd fj s := rfl
@[simp] theorem exec_fnegD (fd : BitVec 5) (fj : BitVec 5) (s : State) : exec (.fnegD fd fj) s = execFnegD fd fj s := rfl
@[simp] theorem exec_fclassS (fd : BitVec 5) (fj : BitVec 5) (s : State) : exec (.fclassS fd fj) s = execFclassS fd fj s := rfl
@[simp] theorem exec_fclassD (fd : BitVec 5) (fj : BitVec 5) (s : State) : exec (.fclassD fd fj) s = execFclassD fd fj s := rfl
@[simp] theorem exec_fsqrtS (fd : BitVec 5) (fj : BitVec 5) (s : State) : exec (.fsqrtS fd fj) s = execFsqrtS fd fj s := rfl
@[simp] theorem exec_fsqrtD (fd : BitVec 5) (fj : BitVec 5) (s : State) : exec (.fsqrtD fd fj) s = execFsqrtD fd fj s := rfl
@[simp] theorem exec_frecipS (fd : BitVec 5) (fj : BitVec 5) (s : State) : exec (.frecipS fd fj) s = execFrecipS fd fj s := rfl
@[simp] theorem exec_frecipD (fd : BitVec 5) (fj : BitVec 5) (s : State) : exec (.frecipD fd fj) s = execFrecipD fd fj s := rfl
@[simp] theorem exec_frsqrtS (fd : BitVec 5) (fj : BitVec 5) (s : State) : exec (.frsqrtS fd fj) s = execFrsqrtS fd fj s := rfl
@[simp] theorem exec_frsqrtD (fd : BitVec 5) (fj : BitVec 5) (s : State) : exec (.frsqrtD fd fj) s = execFrsqrtD fd fj s := rfl
@[simp] theorem exec_fmovS (fd : BitVec 5) (fj : BitVec 5) (s : State) : exec (.fmovS fd fj) s = execFmovS fd fj s := rfl
@[simp] theorem exec_fmovD (fd : BitVec 5) (fj : BitVec 5) (s : State) : exec (.fmovD fd fj) s = execFmovD fd fj s := rfl
@[simp] theorem exec_movgr2frW (fd : BitVec 5) (rj : BitVec 5) (s : State) : exec (.movgr2frW fd rj) s = execMovgr2frW fd rj s := rfl
@[simp] theorem exec_movgr2frhW (fd : BitVec 5) (rj : BitVec 5) (s : State) : exec (.movgr2frhW fd rj) s = execMovgr2frhW fd rj s := rfl
@[simp] theorem exec_movfr2grS (rd : BitVec 5) (fj : BitVec 5) (s : State) : exec (.movfr2grS rd fj) s = execMovfr2grS rd fj s := rfl
@[simp] theorem exec_movfrh2grS (rd : BitVec 5) (fj : BitVec 5) (s : State) : exec (.movfrh2grS rd fj) s = execMovfrh2grS rd fj s := rfl
@[simp] theorem exec_movgr2fcsr (fcsr : BitVec 5) (rj : BitVec 5) (s : State) : exec (.movgr2fcsr fcsr rj) s = execMovgr2fcsr fcsr rj s := rfl
@[simp] theorem exec_movfcsr2gr (rd : BitVec 5) (fcsr : BitVec 5) (s : State) : exec (.movfcsr2gr rd fcsr) s = execMovfcsr2gr rd fcsr s := rfl
@[simp] theorem exec_movfr2cf (cd : BitVec 5) (fj : BitVec 5) (s : State) : exec (.movfr2cf cd fj) s = execMovfr2cf cd fj s := rfl
@[simp] theorem exec_movcf2fr (fd : BitVec 5) (cj : BitVec 5) (s : State) : exec (.movcf2fr fd cj) s = execMovcf2fr fd cj s := rfl
@[simp] theorem exec_movgr2cf (cd : BitVec 5) (rj : BitVec 5) (s : State) : exec (.movgr2cf cd rj) s = execMovgr2cf cd rj s := rfl
@[simp] theorem exec_movcf2gr (rd : BitVec 5) (cj : BitVec 5) (s : State) : exec (.movcf2gr rd cj) s = execMovcf2gr rd cj s := rfl
@[simp] theorem exec_fcvtSD (fd : BitVec 5) (fj : BitVec 5) (s : State) : exec (.fcvtSD fd fj) s = execFcvtSD fd fj s := rfl
@[simp] theorem exec_fcvtDS (fd : BitVec 5) (fj : BitVec 5) (s : State) : exec (.fcvtDS fd fj) s = execFcvtDS fd fj s := rfl
@[simp] theorem exec_ftintrmWS (fd : BitVec 5) (fj : BitVec 5) (s : State) : exec (.ftintrmWS fd fj) s = execFtintrmWS fd fj s := rfl
@[simp] theorem exec_ftintrmWD (fd : BitVec 5) (fj : BitVec 5) (s : State) : exec (.ftintrmWD fd fj) s = execFtintrmWD fd fj s := rfl
@[simp] theorem exec_ftintrpWS (fd : BitVec 5) (fj : BitVec 5) (s : State) : exec (.ftintrpWS fd fj) s = execFtintrpWS fd fj s := rfl
@[simp] theorem exec_ftintrpWD (fd : BitVec 5) (fj : BitVec 5) (s : State) : exec (.ftintrpWD fd fj) s = execFtintrpWD fd fj s := rfl
@[simp] theorem exec_ftintrzWS (fd : BitVec 5) (fj : BitVec 5) (s : State) : exec (.ftintrzWS fd fj) s = execFtintrzWS fd fj s := rfl
@[simp] theorem exec_ftintrzWD (fd : BitVec 5) (fj : BitVec 5) (s : State) : exec (.ftintrzWD fd fj) s = execFtintrzWD fd fj s := rfl
@[simp] theorem exec_ftintrneWS (fd : BitVec 5) (fj : BitVec 5) (s : State) : exec (.ftintrneWS fd fj) s = execFtintrneWS fd fj s := rfl
@[simp] theorem exec_ftintrneWD (fd : BitVec 5) (fj : BitVec 5) (s : State) : exec (.ftintrneWD fd fj) s = execFtintrneWD fd fj s := rfl
@[simp] theorem exec_ftintWS (fd : BitVec 5) (fj : BitVec 5) (s : State) : exec (.ftintWS fd fj) s = execFtintWS fd fj s := rfl
@[simp] theorem exec_ftintWD (fd : BitVec 5) (fj : BitVec 5) (s : State) : exec (.ftintWD fd fj) s = execFtintWD fd fj s := rfl
@[simp] theorem exec_ffintSW (fd : BitVec 5) (fj : BitVec 5) (s : State) : exec (.ffintSW fd fj) s = execFfintSW fd fj s := rfl
@[simp] theorem exec_ffintDW (fd : BitVec 5) (fj : BitVec 5) (s : State) : exec (.ffintDW fd fj) s = execFfintDW fd fj s := rfl
@[simp] theorem exec_fmaddS (fd : BitVec 5) (fj : BitVec 5) (fk : BitVec 5) (fa : BitVec 5) (s : State) : exec (.fmaddS fd fj fk fa) s = execFmaddS fd fj fk fa s := rfl
@[simp] theorem exec_fmaddD (fd : BitVec 5) (fj : BitVec 5) (fk : BitVec 5) (fa : BitVec 5) (s : State) : exec (.fmaddD fd fj fk fa) s = execFmaddD fd fj fk fa s := rfl
@[simp] theorem exec_fmsubS (fd : BitVec 5) (fj : BitVec 5) (fk : BitVec 5) (fa : BitVec 5) (s : State) : exec (.fmsubS fd fj fk fa) s = execFmsubS fd fj fk fa s := rfl
@[simp] theorem exec_fmsubD (fd : BitVec 5) (fj : BitVec 5) (fk : BitVec 5) (fa : BitVec 5) (s : State) : exec (.fmsubD fd fj fk fa) s = execFmsubD fd fj fk fa s := rfl
@[simp] theorem exec_fnmaddS (fd : BitVec 5) (fj : BitVec 5) (fk : BitVec 5) (fa : BitVec 5) (s : State) : exec (.fnmaddS fd fj fk fa) s = execFnmaddS fd fj fk fa s := rfl
@[simp] theorem exec_fnmaddD (fd : BitVec 5) (fj : BitVec 5) (fk : BitVec 5) (fa : BitVec 5) (s : State) : exec (.fnmaddD fd fj fk fa) s = execFnmaddD fd fj fk fa s := rfl
@[simp] theorem exec_fnmsubS (fd : BitVec 5) (fj : BitVec 5) (fk : BitVec 5) (fa : BitVec 5) (s : State) : exec (.fnmsubS fd fj fk fa) s = execFnmsubS fd fj fk fa s := rfl
@[simp] theorem exec_fnmsubD (fd : BitVec 5) (fj : BitVec 5) (fk : BitVec 5) (fa : BitVec 5) (s : State) : exec (.fnmsubD fd fj fk fa) s = execFnmsubD fd fj fk fa s := rfl
@[simp] theorem exec_fcmpCondS (cond : BitVec 5) (cd : BitVec 5) (fj : BitVec 5) (fk : BitVec 5) (s : State) : exec (.fcmpCondS cond cd fj fk) s = execFcmpCondS cond cd fj fk s := rfl
@[simp] theorem exec_fcmpCondD (cond : BitVec 5) (cd : BitVec 5) (fj : BitVec 5) (fk : BitVec 5) (s : State) : exec (.fcmpCondD cond cd fj fk) s = execFcmpCondD cond cd fj fk s := rfl
@[simp] theorem exec_fsel (fd : BitVec 5) (fj : BitVec 5) (fk : BitVec 5) (ca : BitVec 3) (s : State) : exec (.fsel fd fj fk ca) s = execFsel fd fj fk ca s := rfl
@[simp] theorem exec_bceqz (cj : BitVec 3) (offs21 : BitVec 21) (s : State) : exec (.bceqz cj offs21) s = execBceqz cj offs21 s := rfl
@[simp] theorem exec_bcnez (cj : BitVec 3) (offs21 : BitVec 21) (s : State) : exec (.bcnez cj offs21) s = execBcnez cj offs21 s := rfl
@[simp] theorem exec_fldS (fd : BitVec 5) (rj : BitVec 5) (si12 : BitVec 12) (s : State) : exec (.fldS fd rj si12) s = execFldS fd rj si12 s := rfl
@[simp] theorem exec_fstS (fd : BitVec 5) (rj : BitVec 5) (si12 : BitVec 12) (s : State) : exec (.fstS fd rj si12) s = execFstS fd rj si12 s := rfl
@[simp] theorem exec_fldD (fd : BitVec 5) (rj : BitVec 5) (si12 : BitVec 12) (s : State) : exec (.fldD fd rj si12) s = execFldD fd rj si12 s := rfl
@[simp] theorem exec_fstD (fd : BitVec 5) (rj : BitVec 5) (si12 : BitVec 12) (s : State) : exec (.fstD fd rj si12) s = execFstD fd rj si12 s := rfl

end Sys2Proof.Machine
end

