-- ==== Sys2Proof/Laws/Step.lean ====
section
/-! SUPPORT. The boundary and the step: what each can do, once. -/

namespace Sys2Proof.Machine

open Sys2Proof

/-- What another agent's stores can change: memory and LLbit (R156, R304). -/
theorem otherStore_spec (s : State) (c : Host.Cell) :
    ∃ m b, otherStore s c = { s with mem := m, llbit := b } ∧ (Memory.wf s.mem = true → Memory.wf m = true) := by
  unfold otherStore
  split
  · exact ⟨_, _, rfl, fun h => wf_writeByte _ _ _ h⟩
  · exact ⟨s.mem, s.llbit, rfl, id⟩

theorem otherStores_spec (l : List Host.Cell) (s : State) :
    ∃ m b, l.foldl otherStore s = { s with mem := m, llbit := b } ∧ (Memory.wf s.mem = true → Memory.wf m = true) := by
  induction l generalizing s with
  | nil => exact ⟨s.mem, s.llbit, rfl, id⟩
  | cons c l ih =>
    obtain ⟨m1, b1, h1, w1⟩ := otherStore_spec s c
    obtain ⟨m2, b2, h2, w2⟩ := ih (otherStore s c)
    refine ⟨m2, b2, ?_, fun h => w2 (by rw [h1]; exact w1 h)⟩
    rw [List.foldl_cons, h2, h1]

/-- Everything the environment can change at a boundary (R450): memory, LLbit, the lines, the timer by ticks, and the
model's own draws and script. -/
theorem environment_spec (s : State) :
    ∃ m b hw ip k d ev, environment s =
        { s with mem := m, llbit := b, hwi := hw, ipi := ip, timer := ticks s.cfg s.csr k s.timer, draws := d,
                 env := ev } ∧
      (Memory.wf s.mem = true → Memory.wf m = true) := by
  unfold environment
  split
  · next e rest h =>
    obtain ⟨m, b, h1, w1⟩ := otherStores_spec e.writes { s with env := rest }
    refine ⟨m, b && !e.clearLlbit, e.hwi, e.ipi, e.ticks, s.draws, rest, ?_, w1⟩
    simp only [applyEvent, h1, deliverTicks]
  · next h =>
    split
    · exact ⟨s.mem, s.llbit, s.hwi, s.ipi, Config.freeCount s.draws, s.draws + 1, s.env, rfl, id⟩
    · exact ⟨s.mem, s.llbit, s.hwi, s.ipi, 0, s.draws, s.env, rfl, id⟩

/-- The choice at a pending interrupt changes nothing but the count of draws. -/
theorem interruptChoice_state (before s : State) : ∃ d, (interruptChoice before s).2 = { s with draws := d } := by
  unfold interruptChoice
  split
  · exact ⟨s.draws, rfl⟩
  · split
    · exact ⟨s.draws, rfl⟩
    · exact ⟨s.draws + 1, rfl⟩

/-- The last part of a boundary: the interrupt, or the instruction, from the same state but for the draws. -/
theorem interruptPoint_cases (before s : State) :
    ∃ d, interruptPoint before s = .done (.next (enter .int { s with draws := d })) ∨
      interruptPoint before s = .run { s with draws := d } := by
  obtain ⟨d, hd⟩ := interruptChoice_state before s
  unfold interruptPoint
  by_cases hp : intPending s = true
  · rw [if_pos hp]
    refine ⟨d, ?_⟩
    simp only [hd]
    cases (interruptChoice before s).1
    · exact .inr rfl
    · exact .inl rfl
  · rw [if_neg hp]
    exact ⟨s.draws, .inr rfl⟩

/-- How a boundary lets an instruction start, or ends the step (R450). -/
theorem boundary_cases (s : State) :
    (resetAsserted s = true ∧ boundary s = .done (.next (warmReset (environment s)))) ∨
    boundary s = .done (.refused .addressModeUndefined) ∨
    ((environment s).idle = true ∧ boundary s = .done (.next (environment s))) ∨
    ∃ d, boundary s = .done (.next (enter .int { environment s with idle := false, draws := d })) ∨
      boundary s = .run { environment s with idle := false, draws := d } := by
  simp only [boundary]
  by_cases h1 : resetAsserted s = true
  · rw [if_pos h1]
    exact .inl ⟨h1, rfl⟩
  · rw [if_neg h1]
    by_cases h2 : crmdDa (environment s).csr = crmdPg (environment s).csr
    · rw [if_pos h2]
      exact .inr (.inl rfl)
    · rw [if_neg h2]
      by_cases h3 : ((environment s).idle && !intVector (environment s)) = true
      · rw [if_pos h3]
        simp only [Bool.and_eq_true] at h3
        exact .inr (.inr (.inl ⟨h3.1, rfl⟩))
      · rw [if_neg h3]
        exact .inr (.inr (.inr (interruptPoint_cases s { environment s with idle := false })))

/-- Everything a step that answers a next state can be (R450): reset, the wait, an interrupt, an exception of the fetch or
the decoding, or the meaning of one instruction. -/
theorem step_cases {s t : State} (h : step s = .next t) :
    (resetAsserted s = true ∧ t = warmReset (environment s)) ∨
    t = environment s ∨
    ∃ d, (∃ e, t = enter e { environment s with idle := false, draws := d }) ∨
      ∃ i, fetchInstr { environment s with idle := false, draws := d } = .ok i ∧
        exec i { environment s with idle := false, draws := d } = .next t := by
  unfold step at h
  rcases boundary_cases s with ⟨hr, hb⟩ | hb | ⟨_, hb⟩ | ⟨d, hb | hb⟩ <;> rw [hb] at h <;> simp only at h
  · cases h; exact .inl ⟨hr, rfl⟩
  · cases h
  · cases h; exact .inr (.inl rfl)
  · cases h; exact .inr (.inr ⟨d, .inl ⟨_, rfl⟩⟩)
  · refine .inr (.inr ⟨d, ?_⟩)
    rcases settle_next h with ⟨i, h1, h2⟩ | ⟨e, _, h2⟩
    · exact .inr ⟨i, h1, h2⟩
    · exact .inl ⟨e, h2⟩

end Sys2Proof.Machine
end

