-- ==== Sys2Proof/Laws/Effects.lean ====
section
/-! SUPPORT. What an instruction of each shape can change, for statements about every instruction: the ordinary
instructions leave the CSRs, the TLB, the timer, the wait and the parameters alone, and keep the form of memory and of the
`stale` record. -/

namespace Sys2Proof.Machine

open Sys2Proof

/-- What every instruction that is not privileged keeps. -/
structure Ordinary (s t : State) : Prop where
  cfg : t.cfg = s.cfg
  csr : t.csr = s.csr
  tlb : t.tlb = s.tlb
  timer : t.timer = s.timer
  idle : t.idle = s.idle
  zero : t.gpr[0] = s.gpr[0]
  mem : Memory.wf s.mem = true → Memory.wf t.mem = true
  stale : risingFrom none s.stale = true → risingFrom none t.stale = true

theorem Ordinary.refl (s : State) : Ordinary s s := ⟨rfl, rfl, rfl, rfl, rfl, rfl, id, id⟩

theorem Ordinary.trans {s t u : State} (h : Ordinary s t) (k : Ordinary t u) : Ordinary s u :=
  ⟨k.cfg.trans h.cfg, k.csr.trans h.csr, k.tlb.trans h.tlb, k.timer.trans h.timer, k.idle.trans h.idle,
    k.zero.trans h.zero, fun w => k.mem (h.mem w), fun w => k.stale (h.stale w)⟩

/-- A register write leaves the slot of `x[0]`. -/
theorem writeReg_gpr_zero (s : State) (r : Reg) (v : Word) : (writeReg s r v).gpr[0] = s.gpr[0] := by
  unfold writeReg
  by_cases h : r = 0
  · simp only [h, if_true]
  · have hne : r.toNat ≠ 0 := fun e => h (BitVec.eq_of_toNat_eq e)
    simp only [h, if_false, Vector.getElem_set_ne _ _ hne]

theorem ordinary_writeReg (s : State) (r : Reg) (v : Word) : Ordinary s (writeReg s r v) :=
  ⟨by simp, by simp, by simp, by simp, by simp, writeReg_gpr_zero s r v, by simp, by simp⟩

theorem ordinary_goto (s : State) (w : Word) : Ordinary s (goto s w) := ⟨rfl, rfl, rfl, rfl, rfl, rfl, id, id⟩

theorem ordinary_advance (s : State) : Ordinary s (advance s) := ordinary_goto s _

theorem ordinary_drawn (s : State) : Ordinary s (drawn s) := ⟨rfl, rfl, rfl, rfl, rfl, rfl, id, id⟩

theorem ordinary_counterAdvanced (s : State) : Ordinary s (counterAdvanced s) :=
  ⟨rfl, rfl, rfl, rfl, rfl, rfl, id, id⟩

theorem ordinary_setReservation (s : State) (pa : Nat) : Ordinary s (setReservation s pa) :=
  ⟨rfl, rfl, rfl, rfl, rfl, rfl, id, id⟩

theorem ordinary_clearLlbit (s : State) : Ordinary s (clearLlbit s) := ⟨rfl, rfl, rfl, rfl, rfl, rfl, id, id⟩

theorem ordinary_afterSc (s : State) : Ordinary s (afterSc s) := by
  unfold afterSc
  split
  · exact ordinary_clearLlbit s
  · exact Ordinary.refl s

theorem ordinary_storeAt (s : State) (pa : Nat) (mat : BitVec 2) (w : Width) (v : Word) :
    Ordinary s (storeAt s pa mat w v) :=
  ⟨rfl, rfl, rfl, rfl, rfl, rfl, storeAt_wf s pa mat w v, rising_markStale mat s.stale pa _⟩

theorem ordinary_stale (s : State) (st : List (Nat × StaleFlags))
    (h : risingFrom none s.stale = true → risingFrom none st = true) : Ordinary s { s with stale := st } :=
  ⟨rfl, rfl, rfl, rfl, rfl, rfl, id, h⟩

/-- The end of a register instruction. -/
theorem ordinary_finish {s t u : State} {rd : Reg} {v : Word} (h : Ordinary s t) (hf : finish t rd v = .next u) :
    Ordinary s u := by
  unfold finish at hf
  cases hf
  exact h.trans ((ordinary_writeReg t rd v).trans (ordinary_advance _))

theorem ordinary_finishDivide {s t : State} {rd : Reg} {d v : Word} (h : finishDivide s rd d v = .next t) :
    Ordinary s t := by
  unfold finishDivide at h
  split at h
  · exact ordinary_finish (ordinary_drawn s) h
  · exact ordinary_finish (Ordinary.refl s) h

theorem ordinary_branchIf {s t : State} {c : Bool} {i : BitVec 16} (h : branchIf c i s = .next t) : Ordinary s t := by
  unfold branchIf at h
  cases h
  split
  · exact ordinary_goto _ _
  · exact ordinary_advance _

/-- A load ends by an exception, or as an ordinary instruction. -/
theorem loadInto_cases {w : Width} {f : Word → Word} {rd rj : Reg} {i : BitVec 12} {s t : State}
    (h : loadInto w f rd rj i s = .next t) : Ordinary s t ∨ ∃ e, t = enter e s := by
  rcases settle_next h with ⟨a, _, h2⟩ | ⟨e, _, h2⟩
  · exact .inl (ordinary_finish (Ordinary.refl s) h2)
  · exact .inr ⟨e, h2⟩

/-- A store ends by an exception, or as an ordinary instruction. -/
theorem storeFrom_cases {w : Width} {rd rj : Reg} {i : BitVec 12} {s t : State}
    (h : storeFrom w rd rj i s = .next t) : Ordinary s t ∨ ∃ e, t = enter e s := by
  rcases settle_next h with ⟨a, h1, h2⟩ | ⟨e, _, h2⟩
  · obtain ⟨p, _, rfl⟩ := store_ok h1
    cases h2
    exact .inl ((ordinary_storeAt _ _ _ _ _).trans (ordinary_advance _))
  · exact .inr ⟨e, h2⟩

theorem ordinary_scFail {s t : State} {rd : Reg} (h : scFail s rd = .next t) : Ordinary s t :=
  ordinary_finish (ordinary_afterSc s) h

/-- SC.W, whatever its outcome. -/
theorem execScW_cases {rd rj : Reg} {si14 : BitVec 14} {s t : State} (h : execScW rd rj si14 s = .next t) :
    Ordinary s t ∨ ∃ e, t = enter e s := by
  unfold execScW at h
  split at h
  · rcases settle_next h with ⟨p, _, h2⟩ | ⟨e, _, h2⟩
    · unfold scStore at h2
      split at h2
      · exact .inl (ordinary_scFail h2)
      · exact .inl (ordinary_finish ((ordinary_storeAt _ _ _ _ _).trans (ordinary_afterSc _)) h2)
    · exact .inr ⟨e, h2⟩
  · split at h
    · rcases settle_next h with ⟨p, _, h2⟩ | ⟨e, _, h2⟩
      · exact .inl (ordinary_scFail h2)
      · exact .inr ⟨e, h2⟩
    · exact .inl (ordinary_scFail h)

/-- LL.W, whatever its outcome. -/
theorem execLlW_cases {rd rj : Reg} {si14 : BitVec 14} {s t : State} (h : execLlW rd rj si14 s = .next t) :
    Ordinary s t ∨ ∃ e, t = enter e s := by
  rcases settle_next h with ⟨p, _, h2⟩ | ⟨e, _, h2⟩
  · exact .inl (ordinary_finish (ordinary_setReservation s p.1) h2)
  · exact .inr ⟨e, h2⟩

/-- A barrier. -/
theorem barrier_next {r : Config.HintRule} {hint : BitVec 15} {k : Out} {t : State} (h : barrier r hint k = .next t) :
    k = .next t := by
  unfold barrier at h
  split at h
  · cases h
  · exact h

/-- The Hit operation keeps the record's order. -/
theorem rising_hitStale (cache : BitVec 3) (p : Nat × BitVec 2) (s : State) (h : risingFrom none s.stale = true) :
    risingFrom none (hitStale cache p s) = true := by
  unfold hitStale
  split
  · exact rising_clearNeedInv _ _ _ h
  · split
    · exact rising_clearNeedWb _ _ _ h
    · exact h

/-- CACOP, whatever its code and outcome. -/
theorem execCacop_cases {code : BitVec 5} {rj : Reg} {i : BitVec 12} {s t : State}
    (h : execCacop code rj i s = .next t) : Ordinary s t ∨ ∃ e, t = enter e s := by
  have key : ∀ u, (if cacopDefined code then cacopOperate code (address12 s rj i) s
      else Host.Outcome.refused Refusal.cacopUndefined) = .next u → Ordinary s u ∨ ∃ e, u = enter e s := by
    intro u hu
    split at hu
    · unfold cacopOperate at hu
      split at hu
      · unfold storeTag at hu
        split at hu
        · cases hu
        · cases hu; exact .inl (ordinary_advance s)
      · split at hu
        · cases hu; exact .inl (ordinary_advance s)
        · split at hu
          · rcases settle_next hu with ⟨p, _, h2⟩ | ⟨e, _, h2⟩
            · cases h2
              exact .inl ((ordinary_stale s _ (rising_hitStale _ p s)).trans (ordinary_advance _))
            · exact .inr ⟨e, h2⟩
          · cases hu
    · cases hu
  unfold execCacop at h
  simp only at h
  split at h
  · exact key t h
  · rcases privileged_next h with ⟨_, h⟩ | ⟨_, h⟩
    · exact key t h
    · exact .inr ⟨_, h⟩

/-- Every floating-point instruction ends by an exception. -/
theorem floatInstr_next {s t : State} (h : floatInstr s = .next t) : ∃ e, t = enter e s := by
  unfold floatInstr at h
  split at h
  · cases h; exact ⟨_, rfl⟩
  · split at h
    · cases h; exact ⟨_, rfl⟩
    · cases h

/-- The shared end of a register instruction, in the terms of the statements. -/
theorem finish_registerEffect (s : State) (rd : Reg) (v : Word) : Ends (finish s rd v) (RegisterEffect s rd v) := by
  obtain ⟨g, h1, h2⟩ := finish_spec s rd v
  exact ⟨_, h1, ⟨g, rfl⟩, h2⟩

/-- A boundary that nothing from outside meets starts the instruction in the same state (R450). -/
theorem boundary_of_quiet {s : State} (h : Quiet s) : boundary s = .run s := by
  obtain ⟨h1, h2, h3, h4, h5⟩ := h
  have e : environment s = s := by simp [environment, h1, h2]
  have r : resetAsserted s = false := by simp [resetAsserted, h1]
  have i : { s with idle := false } = s := by rw [← h4]
  simp only [boundary, e, r, h4, h3, Bool.false_eq_true, if_false, Bool.false_and]
  rw [i]; simp [interruptPoint, h5]

/-- The swap of CSRWR and CSRXCHG where the old value is given and the write succeeds (R341, R342). -/
theorem csrSwap_known (rd : Reg) (num : BitVec 14) (c : CsrName) (m : Word) (s u : State) (hc : csrOf num = some c) (hf : readsFree s c = false) (hw : csrWrite s num (readReg s rd) m = .ok u) :
    csrSwap rd num m s = finish u rd (csrValue s c) := by
  unfold csrSwap; rw [csrRead_value _ _ _ hc hf]; simp [hw]

/-- Ticks add up. -/
theorem ticks_add (cfg : Config.Params) (c : Csrs) (a b : Nat) (t : Timer) : ticks cfg c (a + b) t = ticks cfg c b (ticks cfg c a t) := by
  induction a generalizing t with
  | zero => simp [ticks]
  | succ a ih => rw [show a + 1 + b = (a + b) + 1 by omega]; simp only [ticks, ih]

/-- The memory of `State.reset` is in canonical form. -/
theorem reset_mem_wf : Memory.wf State.reset.mem = true := rfl

end Sys2Proof.Machine
end

