-- ==== Sys2Proof/Laws/Encode.lean ====
section
/-! SUPPORT. The fields of an encoded word, format by format: the opcode (and every slice of it that the decoder's tables
look at), each operand, and the word put together again from its fields. -/

namespace Sys2Proof

set_option linter.unusedSimpArgs false

theorem enc3R_op (op : BitVec 17) (rk : BitVec 5) (rj : BitVec 5) (rd : BitVec 5) (lo n : Nat) (h1 : 15 ≤ lo) (h2 : lo + n ≤ 32) :
    bits lo n (enc3R op rk rj rd) = op.extractLsb' (lo - 15) n := by
  rw [enc3R, bits_or, bits_or, bits_or, bits_place_sub lo 15 n op h1 h2,
    bits_place_of_disjoint lo 10 n rk (by omega),
    bits_place_of_disjoint lo 5 n rj (by omega),
    bits_place_of_disjoint lo 0 n rd (by omega)]
  simp

@[simp] theorem enc3R_rk (op : BitVec 17) (rk : BitVec 5) (rj : BitVec 5) (rd : BitVec 5) : bits 10 5 (enc3R op rk rj rd) = rk := by
  rw [enc3R, bits_or, bits_or, bits_or,
    bits_place_of_disjoint 10 15 5 op (by omega), bits_place 10 rk (by omega),
    bits_place_of_disjoint 10 5 5 rj (by omega),
    bits_place_of_disjoint 10 0 5 rd (by omega)]
  simp

@[simp] theorem enc3R_rj (op : BitVec 17) (rk : BitVec 5) (rj : BitVec 5) (rd : BitVec 5) : bits 5 5 (enc3R op rk rj rd) = rj := by
  rw [enc3R, bits_or, bits_or, bits_or,
    bits_place_of_disjoint 5 15 5 op (by omega),
    bits_place_of_disjoint 5 10 5 rk (by omega), bits_place 5 rj (by omega),
    bits_place_of_disjoint 5 0 5 rd (by omega)]
  simp

@[simp] theorem enc3R_rd (op : BitVec 17) (rk : BitVec 5) (rj : BitVec 5) (rd : BitVec 5) : bits 0 5 (enc3R op rk rj rd) = rd := by
  rw [enc3R, bits_or, bits_or, bits_or,
    bits_place_of_disjoint 0 15 5 op (by omega),
    bits_place_of_disjoint 0 10 5 rk (by omega),
    bits_place_of_disjoint 0 5 5 rj (by omega), bits_place 0 rd (by omega)]
  simp

theorem enc3R_fields (w : Word) : enc3R (bits 15 17 w) (bits 10 5 w) (bits 5 5 w) (bits 0 5 w) = w := by
  apply BitVec.eq_of_getLsbD_eq
  intro i hi
  have yes : ∀ {a b : Nat}, a < b → decide (a < b) = true := fun h => decide_eq_true h
  have no : ∀ {a b : Nat}, ¬ a < b → decide (a < b) = false := fun h => decide_eq_false h
  simp only [enc3R, BitVec.getLsbD_or, getLsbD_place, getLsbD_bits, hi, decide_true, Bool.true_and]
  rcases (by omega : (15 ≤ i ∧ i < 32) ∨ (10 ≤ i ∧ i < 15) ∨ (5 ≤ i ∧ i < 10) ∨ (0 ≤ i ∧ i < 5)) with h | h | h | h
  · simp only [no (by omega : ¬ i < 15), yes (by omega : i - 15 < 17), (by omega : 15 + (i - 15) = i), no (by omega : ¬ i < 10), no (by omega : ¬ i - 10 < 5), no (by omega : ¬ i < 5), no (by omega : ¬ i - 5 < 5), no (by omega : ¬ i < 0), no (by omega : ¬ i - 0 < 5),
      Bool.not_true, Bool.not_false, Bool.true_and, Bool.false_and, Bool.or_false, Bool.false_or]
  · simp only [yes (by omega : i < 15), no (by omega : ¬ i < 10), yes (by omega : i - 10 < 5), (by omega : 10 + (i - 10) = i), no (by omega : ¬ i < 5), no (by omega : ¬ i - 5 < 5), no (by omega : ¬ i < 0), no (by omega : ¬ i - 0 < 5),
      Bool.not_true, Bool.not_false, Bool.true_and, Bool.false_and, Bool.or_false, Bool.false_or]
  · simp only [yes (by omega : i < 15), yes (by omega : i < 10), no (by omega : ¬ i < 5), yes (by omega : i - 5 < 5), (by omega : 5 + (i - 5) = i), no (by omega : ¬ i < 0), no (by omega : ¬ i - 0 < 5),
      Bool.not_true, Bool.not_false, Bool.true_and, Bool.false_and, Bool.or_false, Bool.false_or]
  · simp only [yes (by omega : i < 15), yes (by omega : i < 10), yes (by omega : i < 5), no (by omega : ¬ i < 0), yes (by omega : i - 0 < 5), (by omega : 0 + (i - 0) = i),
      Bool.not_true, Bool.not_false, Bool.true_and, Bool.false_and, Bool.or_false, Bool.false_or]

theorem encI15_op (op : BitVec 17) (c : BitVec 15) (lo n : Nat) (h1 : 15 ≤ lo) (h2 : lo + n ≤ 32) :
    bits lo n (encI15 op c) = op.extractLsb' (lo - 15) n := by
  rw [encI15, bits_or, bits_place_sub lo 15 n op h1 h2,
    bits_place_of_disjoint lo 0 n c (by omega)]
  simp

@[simp] theorem encI15_c (op : BitVec 17) (c : BitVec 15) : bits 0 15 (encI15 op c) = c := by
  rw [encI15, bits_or,
    bits_place_of_disjoint 0 15 15 op (by omega), bits_place 0 c (by omega)]
  simp

theorem encI15_fields (w : Word) : encI15 (bits 15 17 w) (bits 0 15 w) = w := by
  apply BitVec.eq_of_getLsbD_eq
  intro i hi
  have yes : ∀ {a b : Nat}, a < b → decide (a < b) = true := fun h => decide_eq_true h
  have no : ∀ {a b : Nat}, ¬ a < b → decide (a < b) = false := fun h => decide_eq_false h
  simp only [encI15, BitVec.getLsbD_or, getLsbD_place, getLsbD_bits, hi, decide_true, Bool.true_and]
  rcases (by omega : (15 ≤ i ∧ i < 32) ∨ (0 ≤ i ∧ i < 15)) with h | h
  · simp only [no (by omega : ¬ i < 15), yes (by omega : i - 15 < 17), (by omega : 15 + (i - 15) = i), no (by omega : ¬ i < 0), no (by omega : ¬ i - 0 < 15),
      Bool.not_true, Bool.not_false, Bool.true_and, Bool.false_and, Bool.or_false, Bool.false_or]
  · simp only [yes (by omega : i < 15), no (by omega : ¬ i < 0), yes (by omega : i - 0 < 15), (by omega : 0 + (i - 0) = i),
      Bool.not_true, Bool.not_false, Bool.true_and, Bool.false_and, Bool.or_false, Bool.false_or]

theorem enc2R_op (op : BitVec 22) (rj : BitVec 5) (rd : BitVec 5) (lo n : Nat) (h1 : 10 ≤ lo) (h2 : lo + n ≤ 32) :
    bits lo n (enc2R op rj rd) = op.extractLsb' (lo - 10) n := by
  rw [enc2R, bits_or, bits_or, bits_place_sub lo 10 n op h1 h2,
    bits_place_of_disjoint lo 5 n rj (by omega),
    bits_place_of_disjoint lo 0 n rd (by omega)]
  simp

@[simp] theorem enc2R_rj (op : BitVec 22) (rj : BitVec 5) (rd : BitVec 5) : bits 5 5 (enc2R op rj rd) = rj := by
  rw [enc2R, bits_or, bits_or,
    bits_place_of_disjoint 5 10 5 op (by omega), bits_place 5 rj (by omega),
    bits_place_of_disjoint 5 0 5 rd (by omega)]
  simp

@[simp] theorem enc2R_rd (op : BitVec 22) (rj : BitVec 5) (rd : BitVec 5) : bits 0 5 (enc2R op rj rd) = rd := by
  rw [enc2R, bits_or, bits_or,
    bits_place_of_disjoint 0 10 5 op (by omega),
    bits_place_of_disjoint 0 5 5 rj (by omega), bits_place 0 rd (by omega)]
  simp

theorem enc2R_fields (w : Word) : enc2R (bits 10 22 w) (bits 5 5 w) (bits 0 5 w) = w := by
  apply BitVec.eq_of_getLsbD_eq
  intro i hi
  have yes : ∀ {a b : Nat}, a < b → decide (a < b) = true := fun h => decide_eq_true h
  have no : ∀ {a b : Nat}, ¬ a < b → decide (a < b) = false := fun h => decide_eq_false h
  simp only [enc2R, BitVec.getLsbD_or, getLsbD_place, getLsbD_bits, hi, decide_true, Bool.true_and]
  rcases (by omega : (10 ≤ i ∧ i < 32) ∨ (5 ≤ i ∧ i < 10) ∨ (0 ≤ i ∧ i < 5)) with h | h | h
  · simp only [no (by omega : ¬ i < 10), yes (by omega : i - 10 < 22), (by omega : 10 + (i - 10) = i), no (by omega : ¬ i < 5), no (by omega : ¬ i - 5 < 5), no (by omega : ¬ i < 0), no (by omega : ¬ i - 0 < 5),
      Bool.not_true, Bool.not_false, Bool.true_and, Bool.false_and, Bool.or_false, Bool.false_or]
  · simp only [yes (by omega : i < 10), no (by omega : ¬ i < 5), yes (by omega : i - 5 < 5), (by omega : 5 + (i - 5) = i), no (by omega : ¬ i < 0), no (by omega : ¬ i - 0 < 5),
      Bool.not_true, Bool.not_false, Bool.true_and, Bool.false_and, Bool.or_false, Bool.false_or]
  · simp only [yes (by omega : i < 10), yes (by omega : i < 5), no (by omega : ¬ i < 0), yes (by omega : i - 0 < 5), (by omega : 0 + (i - 0) = i),
      Bool.not_true, Bool.not_false, Bool.true_and, Bool.false_and, Bool.or_false, Bool.false_or]

theorem enc2RI12_op (op : BitVec 10) (i : BitVec 12) (rj : BitVec 5) (rd : BitVec 5) (lo n : Nat) (h1 : 22 ≤ lo) (h2 : lo + n ≤ 32) :
    bits lo n (enc2RI12 op i rj rd) = op.extractLsb' (lo - 22) n := by
  rw [enc2RI12, bits_or, bits_or, bits_or, bits_place_sub lo 22 n op h1 h2,
    bits_place_of_disjoint lo 10 n i (by omega),
    bits_place_of_disjoint lo 5 n rj (by omega),
    bits_place_of_disjoint lo 0 n rd (by omega)]
  simp

@[simp] theorem enc2RI12_i (op : BitVec 10) (i : BitVec 12) (rj : BitVec 5) (rd : BitVec 5) : bits 10 12 (enc2RI12 op i rj rd) = i := by
  rw [enc2RI12, bits_or, bits_or, bits_or,
    bits_place_of_disjoint 10 22 12 op (by omega), bits_place 10 i (by omega),
    bits_place_of_disjoint 10 5 12 rj (by omega),
    bits_place_of_disjoint 10 0 12 rd (by omega)]
  simp

@[simp] theorem enc2RI12_rj (op : BitVec 10) (i : BitVec 12) (rj : BitVec 5) (rd : BitVec 5) : bits 5 5 (enc2RI12 op i rj rd) = rj := by
  rw [enc2RI12, bits_or, bits_or, bits_or,
    bits_place_of_disjoint 5 22 5 op (by omega),
    bits_place_of_disjoint 5 10 5 i (by omega), bits_place 5 rj (by omega),
    bits_place_of_disjoint 5 0 5 rd (by omega)]
  simp

@[simp] theorem enc2RI12_rd (op : BitVec 10) (i : BitVec 12) (rj : BitVec 5) (rd : BitVec 5) : bits 0 5 (enc2RI12 op i rj rd) = rd := by
  rw [enc2RI12, bits_or, bits_or, bits_or,
    bits_place_of_disjoint 0 22 5 op (by omega),
    bits_place_of_disjoint 0 10 5 i (by omega),
    bits_place_of_disjoint 0 5 5 rj (by omega), bits_place 0 rd (by omega)]
  simp

theorem enc2RI12_fields (w : Word) : enc2RI12 (bits 22 10 w) (bits 10 12 w) (bits 5 5 w) (bits 0 5 w) = w := by
  apply BitVec.eq_of_getLsbD_eq
  intro i hi
  have yes : ∀ {a b : Nat}, a < b → decide (a < b) = true := fun h => decide_eq_true h
  have no : ∀ {a b : Nat}, ¬ a < b → decide (a < b) = false := fun h => decide_eq_false h
  simp only [enc2RI12, BitVec.getLsbD_or, getLsbD_place, getLsbD_bits, hi, decide_true, Bool.true_and]
  rcases (by omega : (22 ≤ i ∧ i < 32) ∨ (10 ≤ i ∧ i < 22) ∨ (5 ≤ i ∧ i < 10) ∨ (0 ≤ i ∧ i < 5)) with h | h | h | h
  · simp only [no (by omega : ¬ i < 22), yes (by omega : i - 22 < 10), (by omega : 22 + (i - 22) = i), no (by omega : ¬ i < 10), no (by omega : ¬ i - 10 < 12), no (by omega : ¬ i < 5), no (by omega : ¬ i - 5 < 5), no (by omega : ¬ i < 0), no (by omega : ¬ i - 0 < 5),
      Bool.not_true, Bool.not_false, Bool.true_and, Bool.false_and, Bool.or_false, Bool.false_or]
  · simp only [yes (by omega : i < 22), no (by omega : ¬ i < 10), yes (by omega : i - 10 < 12), (by omega : 10 + (i - 10) = i), no (by omega : ¬ i < 5), no (by omega : ¬ i - 5 < 5), no (by omega : ¬ i < 0), no (by omega : ¬ i - 0 < 5),
      Bool.not_true, Bool.not_false, Bool.true_and, Bool.false_and, Bool.or_false, Bool.false_or]
  · simp only [yes (by omega : i < 22), yes (by omega : i < 10), no (by omega : ¬ i < 5), yes (by omega : i - 5 < 5), (by omega : 5 + (i - 5) = i), no (by omega : ¬ i < 0), no (by omega : ¬ i - 0 < 5),
      Bool.not_true, Bool.not_false, Bool.true_and, Bool.false_and, Bool.or_false, Bool.false_or]
  · simp only [yes (by omega : i < 22), yes (by omega : i < 10), yes (by omega : i < 5), no (by omega : ¬ i < 0), yes (by omega : i - 0 < 5), (by omega : 0 + (i - 0) = i),
      Bool.not_true, Bool.not_false, Bool.true_and, Bool.false_and, Bool.or_false, Bool.false_or]

theorem enc2RI14_op (op : BitVec 8) (i : BitVec 14) (rj : BitVec 5) (rd : BitVec 5) (lo n : Nat) (h1 : 24 ≤ lo) (h2 : lo + n ≤ 32) :
    bits lo n (enc2RI14 op i rj rd) = op.extractLsb' (lo - 24) n := by
  rw [enc2RI14, bits_or, bits_or, bits_or, bits_place_sub lo 24 n op h1 h2,
    bits_place_of_disjoint lo 10 n i (by omega),
    bits_place_of_disjoint lo 5 n rj (by omega),
    bits_place_of_disjoint lo 0 n rd (by omega)]
  simp

@[simp] theorem enc2RI14_i (op : BitVec 8) (i : BitVec 14) (rj : BitVec 5) (rd : BitVec 5) : bits 10 14 (enc2RI14 op i rj rd) = i := by
  rw [enc2RI14, bits_or, bits_or, bits_or,
    bits_place_of_disjoint 10 24 14 op (by omega), bits_place 10 i (by omega),
    bits_place_of_disjoint 10 5 14 rj (by omega),
    bits_place_of_disjoint 10 0 14 rd (by omega)]
  simp

@[simp] theorem enc2RI14_rj (op : BitVec 8) (i : BitVec 14) (rj : BitVec 5) (rd : BitVec 5) : bits 5 5 (enc2RI14 op i rj rd) = rj := by
  rw [enc2RI14, bits_or, bits_or, bits_or,
    bits_place_of_disjoint 5 24 5 op (by omega),
    bits_place_of_disjoint 5 10 5 i (by omega), bits_place 5 rj (by omega),
    bits_place_of_disjoint 5 0 5 rd (by omega)]
  simp

@[simp] theorem enc2RI14_rd (op : BitVec 8) (i : BitVec 14) (rj : BitVec 5) (rd : BitVec 5) : bits 0 5 (enc2RI14 op i rj rd) = rd := by
  rw [enc2RI14, bits_or, bits_or, bits_or,
    bits_place_of_disjoint 0 24 5 op (by omega),
    bits_place_of_disjoint 0 10 5 i (by omega),
    bits_place_of_disjoint 0 5 5 rj (by omega), bits_place 0 rd (by omega)]
  simp

theorem enc2RI14_fields (w : Word) : enc2RI14 (bits 24 8 w) (bits 10 14 w) (bits 5 5 w) (bits 0 5 w) = w := by
  apply BitVec.eq_of_getLsbD_eq
  intro i hi
  have yes : ∀ {a b : Nat}, a < b → decide (a < b) = true := fun h => decide_eq_true h
  have no : ∀ {a b : Nat}, ¬ a < b → decide (a < b) = false := fun h => decide_eq_false h
  simp only [enc2RI14, BitVec.getLsbD_or, getLsbD_place, getLsbD_bits, hi, decide_true, Bool.true_and]
  rcases (by omega : (24 ≤ i ∧ i < 32) ∨ (10 ≤ i ∧ i < 24) ∨ (5 ≤ i ∧ i < 10) ∨ (0 ≤ i ∧ i < 5)) with h | h | h | h
  · simp only [no (by omega : ¬ i < 24), yes (by omega : i - 24 < 8), (by omega : 24 + (i - 24) = i), no (by omega : ¬ i < 10), no (by omega : ¬ i - 10 < 14), no (by omega : ¬ i < 5), no (by omega : ¬ i - 5 < 5), no (by omega : ¬ i < 0), no (by omega : ¬ i - 0 < 5),
      Bool.not_true, Bool.not_false, Bool.true_and, Bool.false_and, Bool.or_false, Bool.false_or]
  · simp only [yes (by omega : i < 24), no (by omega : ¬ i < 10), yes (by omega : i - 10 < 14), (by omega : 10 + (i - 10) = i), no (by omega : ¬ i < 5), no (by omega : ¬ i - 5 < 5), no (by omega : ¬ i < 0), no (by omega : ¬ i - 0 < 5),
      Bool.not_true, Bool.not_false, Bool.true_and, Bool.false_and, Bool.or_false, Bool.false_or]
  · simp only [yes (by omega : i < 24), yes (by omega : i < 10), no (by omega : ¬ i < 5), yes (by omega : i - 5 < 5), (by omega : 5 + (i - 5) = i), no (by omega : ¬ i < 0), no (by omega : ¬ i - 0 < 5),
      Bool.not_true, Bool.not_false, Bool.true_and, Bool.false_and, Bool.or_false, Bool.false_or]
  · simp only [yes (by omega : i < 24), yes (by omega : i < 10), yes (by omega : i < 5), no (by omega : ¬ i < 0), yes (by omega : i - 0 < 5), (by omega : 0 + (i - 0) = i),
      Bool.not_true, Bool.not_false, Bool.true_and, Bool.false_and, Bool.or_false, Bool.false_or]

theorem enc1RI20_op (op : BitVec 7) (i : BitVec 20) (rd : BitVec 5) (lo n : Nat) (h1 : 25 ≤ lo) (h2 : lo + n ≤ 32) :
    bits lo n (enc1RI20 op i rd) = op.extractLsb' (lo - 25) n := by
  rw [enc1RI20, bits_or, bits_or, bits_place_sub lo 25 n op h1 h2,
    bits_place_of_disjoint lo 5 n i (by omega),
    bits_place_of_disjoint lo 0 n rd (by omega)]
  simp

@[simp] theorem enc1RI20_i (op : BitVec 7) (i : BitVec 20) (rd : BitVec 5) : bits 5 20 (enc1RI20 op i rd) = i := by
  rw [enc1RI20, bits_or, bits_or,
    bits_place_of_disjoint 5 25 20 op (by omega), bits_place 5 i (by omega),
    bits_place_of_disjoint 5 0 20 rd (by omega)]
  simp

@[simp] theorem enc1RI20_rd (op : BitVec 7) (i : BitVec 20) (rd : BitVec 5) : bits 0 5 (enc1RI20 op i rd) = rd := by
  rw [enc1RI20, bits_or, bits_or,
    bits_place_of_disjoint 0 25 5 op (by omega),
    bits_place_of_disjoint 0 5 5 i (by omega), bits_place 0 rd (by omega)]
  simp

theorem enc1RI20_fields (w : Word) : enc1RI20 (bits 25 7 w) (bits 5 20 w) (bits 0 5 w) = w := by
  apply BitVec.eq_of_getLsbD_eq
  intro i hi
  have yes : ∀ {a b : Nat}, a < b → decide (a < b) = true := fun h => decide_eq_true h
  have no : ∀ {a b : Nat}, ¬ a < b → decide (a < b) = false := fun h => decide_eq_false h
  simp only [enc1RI20, BitVec.getLsbD_or, getLsbD_place, getLsbD_bits, hi, decide_true, Bool.true_and]
  rcases (by omega : (25 ≤ i ∧ i < 32) ∨ (5 ≤ i ∧ i < 25) ∨ (0 ≤ i ∧ i < 5)) with h | h | h
  · simp only [no (by omega : ¬ i < 25), yes (by omega : i - 25 < 7), (by omega : 25 + (i - 25) = i), no (by omega : ¬ i < 5), no (by omega : ¬ i - 5 < 20), no (by omega : ¬ i < 0), no (by omega : ¬ i - 0 < 5),
      Bool.not_true, Bool.not_false, Bool.true_and, Bool.false_and, Bool.or_false, Bool.false_or]
  · simp only [yes (by omega : i < 25), no (by omega : ¬ i < 5), yes (by omega : i - 5 < 20), (by omega : 5 + (i - 5) = i), no (by omega : ¬ i < 0), no (by omega : ¬ i - 0 < 5),
      Bool.not_true, Bool.not_false, Bool.true_and, Bool.false_and, Bool.or_false, Bool.false_or]
  · simp only [yes (by omega : i < 25), yes (by omega : i < 5), no (by omega : ¬ i < 0), yes (by omega : i - 0 < 5), (by omega : 0 + (i - 0) = i),
      Bool.not_true, Bool.not_false, Bool.true_and, Bool.false_and, Bool.or_false, Bool.false_or]

theorem enc2RI16_op (op : BitVec 6) (i : BitVec 16) (rj : BitVec 5) (rd : BitVec 5) (lo n : Nat) (h1 : 26 ≤ lo) (h2 : lo + n ≤ 32) :
    bits lo n (enc2RI16 op i rj rd) = op.extractLsb' (lo - 26) n := by
  rw [enc2RI16, bits_or, bits_or, bits_or, bits_place_sub lo 26 n op h1 h2,
    bits_place_of_disjoint lo 10 n i (by omega),
    bits_place_of_disjoint lo 5 n rj (by omega),
    bits_place_of_disjoint lo 0 n rd (by omega)]
  simp

@[simp] theorem enc2RI16_i (op : BitVec 6) (i : BitVec 16) (rj : BitVec 5) (rd : BitVec 5) : bits 10 16 (enc2RI16 op i rj rd) = i := by
  rw [enc2RI16, bits_or, bits_or, bits_or,
    bits_place_of_disjoint 10 26 16 op (by omega), bits_place 10 i (by omega),
    bits_place_of_disjoint 10 5 16 rj (by omega),
    bits_place_of_disjoint 10 0 16 rd (by omega)]
  simp

@[simp] theorem enc2RI16_rj (op : BitVec 6) (i : BitVec 16) (rj : BitVec 5) (rd : BitVec 5) : bits 5 5 (enc2RI16 op i rj rd) = rj := by
  rw [enc2RI16, bits_or, bits_or, bits_or,
    bits_place_of_disjoint 5 26 5 op (by omega),
    bits_place_of_disjoint 5 10 5 i (by omega), bits_place 5 rj (by omega),
    bits_place_of_disjoint 5 0 5 rd (by omega)]
  simp

@[simp] theorem enc2RI16_rd (op : BitVec 6) (i : BitVec 16) (rj : BitVec 5) (rd : BitVec 5) : bits 0 5 (enc2RI16 op i rj rd) = rd := by
  rw [enc2RI16, bits_or, bits_or, bits_or,
    bits_place_of_disjoint 0 26 5 op (by omega),
    bits_place_of_disjoint 0 10 5 i (by omega),
    bits_place_of_disjoint 0 5 5 rj (by omega), bits_place 0 rd (by omega)]
  simp

theorem enc2RI16_fields (w : Word) : enc2RI16 (bits 26 6 w) (bits 10 16 w) (bits 5 5 w) (bits 0 5 w) = w := by
  apply BitVec.eq_of_getLsbD_eq
  intro i hi
  have yes : ∀ {a b : Nat}, a < b → decide (a < b) = true := fun h => decide_eq_true h
  have no : ∀ {a b : Nat}, ¬ a < b → decide (a < b) = false := fun h => decide_eq_false h
  simp only [enc2RI16, BitVec.getLsbD_or, getLsbD_place, getLsbD_bits, hi, decide_true, Bool.true_and]
  rcases (by omega : (26 ≤ i ∧ i < 32) ∨ (10 ≤ i ∧ i < 26) ∨ (5 ≤ i ∧ i < 10) ∨ (0 ≤ i ∧ i < 5)) with h | h | h | h
  · simp only [no (by omega : ¬ i < 26), yes (by omega : i - 26 < 6), (by omega : 26 + (i - 26) = i), no (by omega : ¬ i < 10), no (by omega : ¬ i - 10 < 16), no (by omega : ¬ i < 5), no (by omega : ¬ i - 5 < 5), no (by omega : ¬ i < 0), no (by omega : ¬ i - 0 < 5),
      Bool.not_true, Bool.not_false, Bool.true_and, Bool.false_and, Bool.or_false, Bool.false_or]
  · simp only [yes (by omega : i < 26), no (by omega : ¬ i < 10), yes (by omega : i - 10 < 16), (by omega : 10 + (i - 10) = i), no (by omega : ¬ i < 5), no (by omega : ¬ i - 5 < 5), no (by omega : ¬ i < 0), no (by omega : ¬ i - 0 < 5),
      Bool.not_true, Bool.not_false, Bool.true_and, Bool.false_and, Bool.or_false, Bool.false_or]
  · simp only [yes (by omega : i < 26), yes (by omega : i < 10), no (by omega : ¬ i < 5), yes (by omega : i - 5 < 5), (by omega : 5 + (i - 5) = i), no (by omega : ¬ i < 0), no (by omega : ¬ i - 0 < 5),
      Bool.not_true, Bool.not_false, Bool.true_and, Bool.false_and, Bool.or_false, Bool.false_or]
  · simp only [yes (by omega : i < 26), yes (by omega : i < 10), yes (by omega : i < 5), no (by omega : ¬ i < 0), yes (by omega : i - 0 < 5), (by omega : 0 + (i - 0) = i),
      Bool.not_true, Bool.not_false, Bool.true_and, Bool.false_and, Bool.or_false, Bool.false_or]

theorem enc4R_op (op : BitVec 12) (ra : BitVec 5) (rk : BitVec 5) (rj : BitVec 5) (rd : BitVec 5) (lo n : Nat) (h1 : 20 ≤ lo) (h2 : lo + n ≤ 32) :
    bits lo n (enc4R op ra rk rj rd) = op.extractLsb' (lo - 20) n := by
  rw [enc4R, bits_or, bits_or, bits_or, bits_or, bits_place_sub lo 20 n op h1 h2,
    bits_place_of_disjoint lo 15 n ra (by omega),
    bits_place_of_disjoint lo 10 n rk (by omega),
    bits_place_of_disjoint lo 5 n rj (by omega),
    bits_place_of_disjoint lo 0 n rd (by omega)]
  simp

@[simp] theorem enc4R_ra (op : BitVec 12) (ra : BitVec 5) (rk : BitVec 5) (rj : BitVec 5) (rd : BitVec 5) : bits 15 5 (enc4R op ra rk rj rd) = ra := by
  rw [enc4R, bits_or, bits_or, bits_or, bits_or,
    bits_place_of_disjoint 15 20 5 op (by omega), bits_place 15 ra (by omega),
    bits_place_of_disjoint 15 10 5 rk (by omega),
    bits_place_of_disjoint 15 5 5 rj (by omega),
    bits_place_of_disjoint 15 0 5 rd (by omega)]
  simp

@[simp] theorem enc4R_rk (op : BitVec 12) (ra : BitVec 5) (rk : BitVec 5) (rj : BitVec 5) (rd : BitVec 5) : bits 10 5 (enc4R op ra rk rj rd) = rk := by
  rw [enc4R, bits_or, bits_or, bits_or, bits_or,
    bits_place_of_disjoint 10 20 5 op (by omega),
    bits_place_of_disjoint 10 15 5 ra (by omega), bits_place 10 rk (by omega),
    bits_place_of_disjoint 10 5 5 rj (by omega),
    bits_place_of_disjoint 10 0 5 rd (by omega)]
  simp

@[simp] theorem enc4R_rj (op : BitVec 12) (ra : BitVec 5) (rk : BitVec 5) (rj : BitVec 5) (rd : BitVec 5) : bits 5 5 (enc4R op ra rk rj rd) = rj := by
  rw [enc4R, bits_or, bits_or, bits_or, bits_or,
    bits_place_of_disjoint 5 20 5 op (by omega),
    bits_place_of_disjoint 5 15 5 ra (by omega),
    bits_place_of_disjoint 5 10 5 rk (by omega), bits_place 5 rj (by omega),
    bits_place_of_disjoint 5 0 5 rd (by omega)]
  simp

@[simp] theorem enc4R_rd (op : BitVec 12) (ra : BitVec 5) (rk : BitVec 5) (rj : BitVec 5) (rd : BitVec 5) : bits 0 5 (enc4R op ra rk rj rd) = rd := by
  rw [enc4R, bits_or, bits_or, bits_or, bits_or,
    bits_place_of_disjoint 0 20 5 op (by omega),
    bits_place_of_disjoint 0 15 5 ra (by omega),
    bits_place_of_disjoint 0 10 5 rk (by omega),
    bits_place_of_disjoint 0 5 5 rj (by omega), bits_place 0 rd (by omega)]
  simp

theorem enc4R_fields (w : Word) : enc4R (bits 20 12 w) (bits 15 5 w) (bits 10 5 w) (bits 5 5 w) (bits 0 5 w) = w := by
  apply BitVec.eq_of_getLsbD_eq
  intro i hi
  have yes : ∀ {a b : Nat}, a < b → decide (a < b) = true := fun h => decide_eq_true h
  have no : ∀ {a b : Nat}, ¬ a < b → decide (a < b) = false := fun h => decide_eq_false h
  simp only [enc4R, BitVec.getLsbD_or, getLsbD_place, getLsbD_bits, hi, decide_true, Bool.true_and]
  rcases (by omega : (20 ≤ i ∧ i < 32) ∨ (15 ≤ i ∧ i < 20) ∨ (10 ≤ i ∧ i < 15) ∨ (5 ≤ i ∧ i < 10) ∨ (0 ≤ i ∧ i < 5)) with h | h | h | h | h
  · simp only [no (by omega : ¬ i < 20), yes (by omega : i - 20 < 12), (by omega : 20 + (i - 20) = i), no (by omega : ¬ i < 15), no (by omega : ¬ i - 15 < 5), no (by omega : ¬ i < 10), no (by omega : ¬ i - 10 < 5), no (by omega : ¬ i < 5), no (by omega : ¬ i - 5 < 5), no (by omega : ¬ i < 0), no (by omega : ¬ i - 0 < 5),
      Bool.not_true, Bool.not_false, Bool.true_and, Bool.false_and, Bool.or_false, Bool.false_or]
  · simp only [yes (by omega : i < 20), no (by omega : ¬ i < 15), yes (by omega : i - 15 < 5), (by omega : 15 + (i - 15) = i), no (by omega : ¬ i < 10), no (by omega : ¬ i - 10 < 5), no (by omega : ¬ i < 5), no (by omega : ¬ i - 5 < 5), no (by omega : ¬ i < 0), no (by omega : ¬ i - 0 < 5),
      Bool.not_true, Bool.not_false, Bool.true_and, Bool.false_and, Bool.or_false, Bool.false_or]
  · simp only [yes (by omega : i < 20), yes (by omega : i < 15), no (by omega : ¬ i < 10), yes (by omega : i - 10 < 5), (by omega : 10 + (i - 10) = i), no (by omega : ¬ i < 5), no (by omega : ¬ i - 5 < 5), no (by omega : ¬ i < 0), no (by omega : ¬ i - 0 < 5),
      Bool.not_true, Bool.not_false, Bool.true_and, Bool.false_and, Bool.or_false, Bool.false_or]
  · simp only [yes (by omega : i < 20), yes (by omega : i < 15), yes (by omega : i < 10), no (by omega : ¬ i < 5), yes (by omega : i - 5 < 5), (by omega : 5 + (i - 5) = i), no (by omega : ¬ i < 0), no (by omega : ¬ i - 0 < 5),
      Bool.not_true, Bool.not_false, Bool.true_and, Bool.false_and, Bool.or_false, Bool.false_or]
  · simp only [yes (by omega : i < 20), yes (by omega : i < 15), yes (by omega : i < 10), yes (by omega : i < 5), no (by omega : ¬ i < 0), yes (by omega : i - 0 < 5), (by omega : 0 + (i - 0) = i),
      Bool.not_true, Bool.not_false, Bool.true_and, Bool.false_and, Bool.or_false, Bool.false_or]

theorem encFsel_op (op : BitVec 14) (ca : BitVec 3) (rk : BitVec 5) (rj : BitVec 5) (rd : BitVec 5) (lo n : Nat) (h1 : 18 ≤ lo) (h2 : lo + n ≤ 32) :
    bits lo n (encFsel op ca rk rj rd) = op.extractLsb' (lo - 18) n := by
  rw [encFsel, bits_or, bits_or, bits_or, bits_or, bits_place_sub lo 18 n op h1 h2,
    bits_place_of_disjoint lo 15 n ca (by omega),
    bits_place_of_disjoint lo 10 n rk (by omega),
    bits_place_of_disjoint lo 5 n rj (by omega),
    bits_place_of_disjoint lo 0 n rd (by omega)]
  simp

@[simp] theorem encFsel_ca (op : BitVec 14) (ca : BitVec 3) (rk : BitVec 5) (rj : BitVec 5) (rd : BitVec 5) : bits 15 3 (encFsel op ca rk rj rd) = ca := by
  rw [encFsel, bits_or, bits_or, bits_or, bits_or,
    bits_place_of_disjoint 15 18 3 op (by omega), bits_place 15 ca (by omega),
    bits_place_of_disjoint 15 10 3 rk (by omega),
    bits_place_of_disjoint 15 5 3 rj (by omega),
    bits_place_of_disjoint 15 0 3 rd (by omega)]
  simp

@[simp] theorem encFsel_rk (op : BitVec 14) (ca : BitVec 3) (rk : BitVec 5) (rj : BitVec 5) (rd : BitVec 5) : bits 10 5 (encFsel op ca rk rj rd) = rk := by
  rw [encFsel, bits_or, bits_or, bits_or, bits_or,
    bits_place_of_disjoint 10 18 5 op (by omega),
    bits_place_of_disjoint 10 15 5 ca (by omega), bits_place 10 rk (by omega),
    bits_place_of_disjoint 10 5 5 rj (by omega),
    bits_place_of_disjoint 10 0 5 rd (by omega)]
  simp

@[simp] theorem encFsel_rj (op : BitVec 14) (ca : BitVec 3) (rk : BitVec 5) (rj : BitVec 5) (rd : BitVec 5) : bits 5 5 (encFsel op ca rk rj rd) = rj := by
  rw [encFsel, bits_or, bits_or, bits_or, bits_or,
    bits_place_of_disjoint 5 18 5 op (by omega),
    bits_place_of_disjoint 5 15 5 ca (by omega),
    bits_place_of_disjoint 5 10 5 rk (by omega), bits_place 5 rj (by omega),
    bits_place_of_disjoint 5 0 5 rd (by omega)]
  simp

@[simp] theorem encFsel_rd (op : BitVec 14) (ca : BitVec 3) (rk : BitVec 5) (rj : BitVec 5) (rd : BitVec 5) : bits 0 5 (encFsel op ca rk rj rd) = rd := by
  rw [encFsel, bits_or, bits_or, bits_or, bits_or,
    bits_place_of_disjoint 0 18 5 op (by omega),
    bits_place_of_disjoint 0 15 5 ca (by omega),
    bits_place_of_disjoint 0 10 5 rk (by omega),
    bits_place_of_disjoint 0 5 5 rj (by omega), bits_place 0 rd (by omega)]
  simp

theorem encFsel_fields (w : Word) : encFsel (bits 18 14 w) (bits 15 3 w) (bits 10 5 w) (bits 5 5 w) (bits 0 5 w) = w := by
  apply BitVec.eq_of_getLsbD_eq
  intro i hi
  have yes : ∀ {a b : Nat}, a < b → decide (a < b) = true := fun h => decide_eq_true h
  have no : ∀ {a b : Nat}, ¬ a < b → decide (a < b) = false := fun h => decide_eq_false h
  simp only [encFsel, BitVec.getLsbD_or, getLsbD_place, getLsbD_bits, hi, decide_true, Bool.true_and]
  rcases (by omega : (18 ≤ i ∧ i < 32) ∨ (15 ≤ i ∧ i < 18) ∨ (10 ≤ i ∧ i < 15) ∨ (5 ≤ i ∧ i < 10) ∨ (0 ≤ i ∧ i < 5)) with h | h | h | h | h
  · simp only [no (by omega : ¬ i < 18), yes (by omega : i - 18 < 14), (by omega : 18 + (i - 18) = i), no (by omega : ¬ i < 15), no (by omega : ¬ i - 15 < 3), no (by omega : ¬ i < 10), no (by omega : ¬ i - 10 < 5), no (by omega : ¬ i < 5), no (by omega : ¬ i - 5 < 5), no (by omega : ¬ i < 0), no (by omega : ¬ i - 0 < 5),
      Bool.not_true, Bool.not_false, Bool.true_and, Bool.false_and, Bool.or_false, Bool.false_or]
  · simp only [yes (by omega : i < 18), no (by omega : ¬ i < 15), yes (by omega : i - 15 < 3), (by omega : 15 + (i - 15) = i), no (by omega : ¬ i < 10), no (by omega : ¬ i - 10 < 5), no (by omega : ¬ i < 5), no (by omega : ¬ i - 5 < 5), no (by omega : ¬ i < 0), no (by omega : ¬ i - 0 < 5),
      Bool.not_true, Bool.not_false, Bool.true_and, Bool.false_and, Bool.or_false, Bool.false_or]
  · simp only [yes (by omega : i < 18), yes (by omega : i < 15), no (by omega : ¬ i < 10), yes (by omega : i - 10 < 5), (by omega : 10 + (i - 10) = i), no (by omega : ¬ i < 5), no (by omega : ¬ i - 5 < 5), no (by omega : ¬ i < 0), no (by omega : ¬ i - 0 < 5),
      Bool.not_true, Bool.not_false, Bool.true_and, Bool.false_and, Bool.or_false, Bool.false_or]
  · simp only [yes (by omega : i < 18), yes (by omega : i < 15), yes (by omega : i < 10), no (by omega : ¬ i < 5), yes (by omega : i - 5 < 5), (by omega : 5 + (i - 5) = i), no (by omega : ¬ i < 0), no (by omega : ¬ i - 0 < 5),
      Bool.not_true, Bool.not_false, Bool.true_and, Bool.false_and, Bool.or_false, Bool.false_or]
  · simp only [yes (by omega : i < 18), yes (by omega : i < 15), yes (by omega : i < 10), yes (by omega : i < 5), no (by omega : ¬ i < 0), yes (by omega : i - 0 < 5), (by omega : 0 + (i - 0) = i),
      Bool.not_true, Bool.not_false, Bool.true_and, Bool.false_and, Bool.or_false, Bool.false_or]

theorem i26_split (w : Word) : place 26 (bits 26 6 w) ||| place 10 (bits 10 16 w) ||| place 0 (bits 0 10 w) = w := by
  apply BitVec.eq_of_getLsbD_eq
  intro i hi
  have yes : ∀ {a b : Nat}, a < b → decide (a < b) = true := fun h => decide_eq_true h
  have no : ∀ {a b : Nat}, ¬ a < b → decide (a < b) = false := fun h => decide_eq_false h
  simp only [BitVec.getLsbD_or, getLsbD_place, getLsbD_bits, hi, decide_true, Bool.true_and]
  rcases (by omega : (26 ≤ i ∧ i < 32) ∨ (10 ≤ i ∧ i < 26) ∨ (0 ≤ i ∧ i < 10)) with h | h | h
  · simp only [no (by omega : ¬ i < 26), yes (by omega : i - 26 < 6), (by omega : 26 + (i - 26) = i), no (by omega : ¬ i < 10), no (by omega : ¬ i - 10 < 16), no (by omega : ¬ i < 0), no (by omega : ¬ i - 0 < 10),
      Bool.not_true, Bool.not_false, Bool.true_and, Bool.false_and, Bool.or_false, Bool.false_or]
  · simp only [yes (by omega : i < 26), no (by omega : ¬ i < 10), yes (by omega : i - 10 < 16), (by omega : 10 + (i - 10) = i), no (by omega : ¬ i < 0), no (by omega : ¬ i - 0 < 10),
      Bool.not_true, Bool.not_false, Bool.true_and, Bool.false_and, Bool.or_false, Bool.false_or]
  · simp only [yes (by omega : i < 26), yes (by omega : i < 10), no (by omega : ¬ i < 0), yes (by omega : i - 0 < 10), (by omega : 0 + (i - 0) = i),
      Bool.not_true, Bool.not_false, Bool.true_and, Bool.false_and, Bool.or_false, Bool.false_or]

theorem floatBranch_split (w : Word) : place 26 (bits 26 6 w) ||| place 10 (bits 10 16 w) ||| place 8 (bits 8 2 w) ||| place 5 (bits 5 3 w) ||| place 0 (bits 0 5 w) = w := by
  apply BitVec.eq_of_getLsbD_eq
  intro i hi
  have yes : ∀ {a b : Nat}, a < b → decide (a < b) = true := fun h => decide_eq_true h
  have no : ∀ {a b : Nat}, ¬ a < b → decide (a < b) = false := fun h => decide_eq_false h
  simp only [BitVec.getLsbD_or, getLsbD_place, getLsbD_bits, hi, decide_true, Bool.true_and]
  rcases (by omega : (26 ≤ i ∧ i < 32) ∨ (10 ≤ i ∧ i < 26) ∨ (8 ≤ i ∧ i < 10) ∨ (5 ≤ i ∧ i < 8) ∨ (0 ≤ i ∧ i < 5)) with h | h | h | h | h
  · simp only [no (by omega : ¬ i < 26), yes (by omega : i - 26 < 6), (by omega : 26 + (i - 26) = i), no (by omega : ¬ i < 10), no (by omega : ¬ i - 10 < 16), no (by omega : ¬ i < 8), no (by omega : ¬ i - 8 < 2), no (by omega : ¬ i < 5), no (by omega : ¬ i - 5 < 3), no (by omega : ¬ i < 0), no (by omega : ¬ i - 0 < 5),
      Bool.not_true, Bool.not_false, Bool.true_and, Bool.false_and, Bool.or_false, Bool.false_or]
  · simp only [yes (by omega : i < 26), no (by omega : ¬ i < 10), yes (by omega : i - 10 < 16), (by omega : 10 + (i - 10) = i), no (by omega : ¬ i < 8), no (by omega : ¬ i - 8 < 2), no (by omega : ¬ i < 5), no (by omega : ¬ i - 5 < 3), no (by omega : ¬ i < 0), no (by omega : ¬ i - 0 < 5),
      Bool.not_true, Bool.not_false, Bool.true_and, Bool.false_and, Bool.or_false, Bool.false_or]
  · simp only [yes (by omega : i < 26), yes (by omega : i < 10), no (by omega : ¬ i < 8), yes (by omega : i - 8 < 2), (by omega : 8 + (i - 8) = i), no (by omega : ¬ i < 5), no (by omega : ¬ i - 5 < 3), no (by omega : ¬ i < 0), no (by omega : ¬ i - 0 < 5),
      Bool.not_true, Bool.not_false, Bool.true_and, Bool.false_and, Bool.or_false, Bool.false_or]
  · simp only [yes (by omega : i < 26), yes (by omega : i < 10), yes (by omega : i < 8), no (by omega : ¬ i < 5), yes (by omega : i - 5 < 3), (by omega : 5 + (i - 5) = i), no (by omega : ¬ i < 0), no (by omega : ¬ i - 0 < 5),
      Bool.not_true, Bool.not_false, Bool.true_and, Bool.false_and, Bool.or_false, Bool.false_or]
  · simp only [yes (by omega : i < 26), yes (by omega : i < 10), yes (by omega : i < 8), yes (by omega : i < 5), no (by omega : ¬ i < 0), yes (by omega : i - 0 < 5), (by omega : 0 + (i - 0) = i),
      Bool.not_true, Bool.not_false, Bool.true_and, Bool.false_and, Bool.or_false, Bool.false_or]

/-- The offset of B and BL: its two halves read and joined. -/
@[simp] theorem encI26_field (op : BitVec 6) (i : BitVec 26) : fieldI26 (encI26 op i) = i := by
  have h1 : bits 0 10 (encI26 op i) = i.extractLsb' 16 10 := by
    rw [encI26, bits_or, bits_or, bits_place_of_disjoint 0 26 10 op (by omega),
      bits_place_of_disjoint 0 10 10 _ (by omega), bits_place 0 _ (by omega)]
    simp
  have h2 : bits 10 16 (encI26 op i) = i.extractLsb' 0 16 := by
    rw [encI26, bits_or, bits_or, bits_place_of_disjoint 10 26 16 op (by omega), bits_place 10 _ (by omega),
      bits_place_of_disjoint 10 0 16 _ (by omega)]
    simp
  rw [fieldI26, h1, h2]
  apply BitVec.eq_of_getLsbD_eq
  intro k hk
  rw [BitVec.getLsbD_append, BitVec.getLsbD_extractLsb', BitVec.getLsbD_extractLsb']
  by_cases h : k < 16
  · simp [h]
  · have e : 16 + (k - 16) = k := by omega
    have e2 : k - 16 < 10 := by omega
    simp [h, e, e2]

theorem encI26_op (op : BitVec 6) (i : BitVec 26) (lo n : Nat) (h1 : 26 ≤ lo) (h2 : lo + n ≤ 32) :
    bits lo n (encI26 op i) = op.extractLsb' (lo - 26) n := by
  rw [encI26, bits_or, bits_or, bits_place_sub lo 26 n op h1 h2, bits_place_of_disjoint lo 10 n _ (by omega),
    bits_place_of_disjoint lo 0 n _ (by omega)]
  simp

theorem encI26_fields (w : Word) : encI26 (bits 26 6 w) (fieldI26 w) = w := by
  have h1 : (fieldI26 w).extractLsb' 0 16 = bits 10 16 w := by
    apply BitVec.eq_of_getLsbD_eq
    intro k hk
    simp only [fieldI26, BitVec.getLsbD_extractLsb', BitVec.getLsbD_append, hk, decide_true, Bool.true_and,
      Nat.zero_add, if_true]
  have h2 : (fieldI26 w).extractLsb' 16 10 = bits 0 10 w := by
    apply BitVec.eq_of_getLsbD_eq
    intro k hk
    simp only [fieldI26, BitVec.getLsbD_extractLsb', BitVec.getLsbD_append, hk, decide_true, Bool.true_and]
    simp
  rw [encI26, h1, h2]
  exact i26_split w

/-- The fields of BCEQZ and BCNEZ. -/
theorem encFloatBranch_op (op : BitVec 6) (sel : BitVec 2) (cj : BitVec 3) (i : BitVec 21) (lo n : Nat)
    (h1 : 26 ≤ lo) (h2 : lo + n ≤ 32) : bits lo n (encFloatBranch op sel cj i) = op.extractLsb' (lo - 26) n := by
  rw [encFloatBranch, bits_or, bits_or, bits_or, bits_or, bits_place_sub lo 26 n op h1 h2,
    bits_place_of_disjoint lo 10 n _ (by omega), bits_place_of_disjoint lo 8 n _ (by omega),
    bits_place_of_disjoint lo 5 n _ (by omega), bits_place_of_disjoint lo 0 n _ (by omega)]
  simp

@[simp] theorem encFloatBranch_sel (op : BitVec 6) (sel : BitVec 2) (cj : BitVec 3) (i : BitVec 21) :
    bits 8 2 (encFloatBranch op sel cj i) = sel := by
  rw [encFloatBranch, bits_or, bits_or, bits_or, bits_or, bits_place_of_disjoint 8 26 2 _ (by omega),
    bits_place_of_disjoint 8 10 2 _ (by omega), bits_place 8 sel (by omega),
    bits_place_of_disjoint 8 5 2 _ (by omega), bits_place_of_disjoint 8 0 2 _ (by omega)]
  simp

@[simp] theorem encFloatBranch_cj (op : BitVec 6) (sel : BitVec 2) (cj : BitVec 3) (i : BitVec 21) :
    fieldCj (encFloatBranch op sel cj i) = cj := by
  rw [fieldCj, encFloatBranch, bits_or, bits_or, bits_or, bits_or, bits_place_of_disjoint 5 26 3 _ (by omega),
    bits_place_of_disjoint 5 10 3 _ (by omega), bits_place_of_disjoint 5 8 3 _ (by omega), bits_place 5 cj (by omega),
    bits_place_of_disjoint 5 0 3 _ (by omega)]
  simp

@[simp] theorem encFloatBranch_offset (op : BitVec 6) (sel : BitVec 2) (cj : BitVec 3) (i : BitVec 21) :
    fieldI21 (encFloatBranch op sel cj i) = i := by
  have h1 : bits 0 5 (encFloatBranch op sel cj i) = i.extractLsb' 16 5 := by
    rw [encFloatBranch, bits_or, bits_or, bits_or, bits_or, bits_place_of_disjoint 0 26 5 _ (by omega),
      bits_place_of_disjoint 0 10 5 _ (by omega), bits_place_of_disjoint 0 8 5 _ (by omega),
      bits_place_of_disjoint 0 5 5 _ (by omega), bits_place 0 _ (by omega)]
    simp
  have h2 : bits 10 16 (encFloatBranch op sel cj i) = i.extractLsb' 0 16 := by
    rw [encFloatBranch, bits_or, bits_or, bits_or, bits_or, bits_place_of_disjoint 10 26 16 _ (by omega),
      bits_place 10 _ (by omega), bits_place_of_disjoint 10 8 16 _ (by omega),
      bits_place_of_disjoint 10 5 16 _ (by omega), bits_place_of_disjoint 10 0 16 _ (by omega)]
    simp
  rw [fieldI21, h1, h2]
  apply BitVec.eq_of_getLsbD_eq
  intro k hk
  rw [BitVec.getLsbD_append, BitVec.getLsbD_extractLsb', BitVec.getLsbD_extractLsb']
  by_cases h : k < 16
  · simp [h]
  · have e : 16 + (k - 16) = k := by omega
    have e2 : k - 16 < 5 := by omega
    simp [h, e, e2]

theorem encFloatBranch_fields (w : Word) :
    encFloatBranch (bits 26 6 w) (bits 8 2 w) (fieldCj w) (fieldI21 w) = w := by
  have h1 : (fieldI21 w).extractLsb' 0 16 = bits 10 16 w := by
    apply BitVec.eq_of_getLsbD_eq
    intro k hk
    simp only [fieldI21, BitVec.getLsbD_extractLsb', BitVec.getLsbD_append, hk, decide_true, Bool.true_and,
      Nat.zero_add, if_true]
  have h2 : (fieldI21 w).extractLsb' 16 5 = bits 0 5 w := by
    apply BitVec.eq_of_getLsbD_eq
    intro k hk
    simp only [fieldI21, BitVec.getLsbD_extractLsb', BitVec.getLsbD_append, hk, decide_true, Bool.true_and]
    simp
  rw [encFloatBranch, h1, h2, fieldCj]
  exact floatBranch_split w

end Sys2Proof
end

