-- ==== Sys2Proof/Laws/PerInstr.lean ====
section
/-! SUPPORT. The family of LAWS.json: the word of every instruction carries the match value of its row of
spec/opcode_table.json under the row's mask. The masks and match values are the table's; the encoder is written from
the formats of 30_encoding.md R172 and R173. -/

namespace Sys2Proof.Laws

open Sys2Proof

/-- The row of spec/opcode_table.json: the mask and the match value. -/
def tableRow : Instr → Word × Word
  | .rdcntid _ => (0xFFFFFC1F, 0x00006000)
  | .rdcntvlW _ => (0xFFFFFFE0, 0x00006000)
  | .rdcntvhW _ => (0xFFFFFFE0, 0x00006400)
  | .addW _ _ _ => (0xFFFF8000, 0x00100000)
  | .subW _ _ _ => (0xFFFF8000, 0x00110000)
  | .slt _ _ _ => (0xFFFF8000, 0x00120000)
  | .sltu _ _ _ => (0xFFFF8000, 0x00128000)
  | .norR _ _ _ => (0xFFFF8000, 0x00140000)
  | .andR _ _ _ => (0xFFFF8000, 0x00148000)
  | .orR _ _ _ => (0xFFFF8000, 0x00150000)
  | .xorR _ _ _ => (0xFFFF8000, 0x00158000)
  | .sllW _ _ _ => (0xFFFF8000, 0x00170000)
  | .srlW _ _ _ => (0xFFFF8000, 0x00178000)
  | .sraW _ _ _ => (0xFFFF8000, 0x00180000)
  | .mulW _ _ _ => (0xFFFF8000, 0x001C0000)
  | .mulhW _ _ _ => (0xFFFF8000, 0x001C8000)
  | .mulhWu _ _ _ => (0xFFFF8000, 0x001D0000)
  | .divW _ _ _ => (0xFFFF8000, 0x00200000)
  | .modW _ _ _ => (0xFFFF8000, 0x00208000)
  | .divWu _ _ _ => (0xFFFF8000, 0x00210000)
  | .modWu _ _ _ => (0xFFFF8000, 0x00218000)
  | .breakI _ => (0xFFFF8000, 0x002A0000)
  | .syscallI _ => (0xFFFF8000, 0x002B0000)
  | .slliW _ _ _ => (0xFFFF8000, 0x00408000)
  | .srliW _ _ _ => (0xFFFF8000, 0x00448000)
  | .sraiW _ _ _ => (0xFFFF8000, 0x00488000)
  | .slti _ _ _ => (0xFFC00000, 0x02000000)
  | .sltui _ _ _ => (0xFFC00000, 0x02400000)
  | .addiW _ _ _ => (0xFFC00000, 0x02800000)
  | .andi _ _ _ => (0xFFC00000, 0x03400000)
  | .ori _ _ _ => (0xFFC00000, 0x03800000)
  | .xori _ _ _ => (0xFFC00000, 0x03C00000)
  | .csrrd _ _ => (0xFF0003E0, 0x04000000)
  | .csrwr _ _ => (0xFF0003E0, 0x04000020)
  | .csrxchg _ _ _ => (0xFF000000, 0x04000000)
  | .cacop _ _ _ => (0xFFC00000, 0x06000000)
  | .tlbsrch => (0xFFFFFFFF, 0x06482800)
  | .tlbrd => (0xFFFFFFFF, 0x06482C00)
  | .tlbwr => (0xFFFFFFFF, 0x06483000)
  | .tlbfill => (0xFFFFFFFF, 0x06483400)
  | .ertn => (0xFFFFFFFF, 0x06483800)
  | .idle _ => (0xFFFF8000, 0x06488000)
  | .invtlb _ _ _ => (0xFFFF8000, 0x06498000)
  | .lu12iW _ _ => (0xFE000000, 0x14000000)
  | .pcaddu12i _ _ => (0xFE000000, 0x1C000000)
  | .llW _ _ _ => (0xFF000000, 0x20000000)
  | .scW _ _ _ => (0xFF000000, 0x21000000)
  | .ldB _ _ _ => (0xFFC00000, 0x28000000)
  | .ldH _ _ _ => (0xFFC00000, 0x28400000)
  | .ldW _ _ _ => (0xFFC00000, 0x28800000)
  | .stB _ _ _ => (0xFFC00000, 0x29000000)
  | .stH _ _ _ => (0xFFC00000, 0x29400000)
  | .stW _ _ _ => (0xFFC00000, 0x29800000)
  | .ldBu _ _ _ => (0xFFC00000, 0x2A000000)
  | .ldHu _ _ _ => (0xFFC00000, 0x2A400000)
  | .preld _ _ _ => (0xFFC00000, 0x2AC00000)
  | .dbar _ => (0xFFFF8000, 0x38720000)
  | .ibar _ => (0xFFFF8000, 0x38728000)
  | .jirl _ _ _ => (0xFC000000, 0x4C000000)
  | .b _ => (0xFC000000, 0x50000000)
  | .bl _ => (0xFC000000, 0x54000000)
  | .beq _ _ _ => (0xFC000000, 0x58000000)
  | .bne _ _ _ => (0xFC000000, 0x5C000000)
  | .blt _ _ _ => (0xFC000000, 0x60000000)
  | .bge _ _ _ => (0xFC000000, 0x64000000)
  | .bltu _ _ _ => (0xFC000000, 0x68000000)
  | .bgeu _ _ _ => (0xFC000000, 0x6C000000)
  | .faddS _ _ _ => (0xFFFF8000, 0x01008000)
  | .faddD _ _ _ => (0xFFFF8000, 0x01010000)
  | .fsubS _ _ _ => (0xFFFF8000, 0x01028000)
  | .fsubD _ _ _ => (0xFFFF8000, 0x01030000)
  | .fmulS _ _ _ => (0xFFFF8000, 0x01048000)
  | .fmulD _ _ _ => (0xFFFF8000, 0x01050000)
  | .fdivS _ _ _ => (0xFFFF8000, 0x01068000)
  | .fdivD _ _ _ => (0xFFFF8000, 0x01070000)
  | .fmaxS _ _ _ => (0xFFFF8000, 0x01088000)
  | .fmaxD _ _ _ => (0xFFFF8000, 0x01090000)
  | .fminS _ _ _ => (0xFFFF8000, 0x010A8000)
  | .fminD _ _ _ => (0xFFFF8000, 0x010B0000)
  | .fmaxaS _ _ _ => (0xFFFF8000, 0x010C8000)
  | .fmaxaD _ _ _ => (0xFFFF8000, 0x010D0000)
  | .fminaS _ _ _ => (0xFFFF8000, 0x010E8000)
  | .fminaD _ _ _ => (0xFFFF8000, 0x010F0000)
  | .fcopysignS _ _ _ => (0xFFFF8000, 0x01128000)
  | .fcopysignD _ _ _ => (0xFFFF8000, 0x01130000)
  | .fabsS _ _ => (0xFFFFFC00, 0x01140400)
  | .fabsD _ _ => (0xFFFFFC00, 0x01140800)
  | .fnegS _ _ => (0xFFFFFC00, 0x01141400)
  | .fnegD _ _ => (0xFFFFFC00, 0x01141800)
  | .fclassS _ _ => (0xFFFFFC00, 0x01143400)
  | .fclassD _ _ => (0xFFFFFC00, 0x01143800)
  | .fsqrtS _ _ => (0xFFFFFC00, 0x01144400)
  | .fsqrtD _ _ => (0xFFFFFC00, 0x01144800)
  | .frecipS _ _ => (0xFFFFFC00, 0x01145400)
  | .frecipD _ _ => (0xFFFFFC00, 0x01145800)
  | .frsqrtS _ _ => (0xFFFFFC00, 0x01146400)
  | .frsqrtD _ _ => (0xFFFFFC00, 0x01146800)
  | .fmovS _ _ => (0xFFFFFC00, 0x01149400)
  | .fmovD _ _ => (0xFFFFFC00, 0x01149800)
  | .movgr2frW _ _ => (0xFFFFFC00, 0x0114A400)
  | .movgr2frhW _ _ => (0xFFFFFC00, 0x0114AC00)
  | .movfr2grS _ _ => (0xFFFFFC00, 0x0114B400)
  | .movfrh2grS _ _ => (0xFFFFFC00, 0x0114BC00)
  | .movgr2fcsr _ _ => (0xFFFFFC00, 0x0114C000)
  | .movfcsr2gr _ _ => (0xFFFFFC00, 0x0114C800)
  | .movfr2cf _ _ => (0xFFFFFC00, 0x0114D000)
  | .movcf2fr _ _ => (0xFFFFFC00, 0x0114D400)
  | .movgr2cf _ _ => (0xFFFFFC00, 0x0114D800)
  | .movcf2gr _ _ => (0xFFFFFC00, 0x0114DC00)
  | .fcvtSD _ _ => (0xFFFFFC00, 0x01191800)
  | .fcvtDS _ _ => (0xFFFFFC00, 0x01192400)
  | .ftintrmWS _ _ => (0xFFFFFC00, 0x011A0400)
  | .ftintrmWD _ _ => (0xFFFFFC00, 0x011A0800)
  | .ftintrpWS _ _ => (0xFFFFFC00, 0x011A4400)
  | .ftintrpWD _ _ => (0xFFFFFC00, 0x011A4800)
  | .ftintrzWS _ _ => (0xFFFFFC00, 0x011A8400)
  | .ftintrzWD _ _ => (0xFFFFFC00, 0x011A8800)
  | .ftintrneWS _ _ => (0xFFFFFC00, 0x011AC400)
  | .ftintrneWD _ _ => (0xFFFFFC00, 0x011AC800)
  | .ftintWS _ _ => (0xFFFFFC00, 0x011B0400)
  | .ftintWD _ _ => (0xFFFFFC00, 0x011B0800)
  | .ffintSW _ _ => (0xFFFFFC00, 0x011D1000)
  | .ffintDW _ _ => (0xFFFFFC00, 0x011D2000)
  | .fmaddS _ _ _ _ => (0xFFF00000, 0x08100000)
  | .fmaddD _ _ _ _ => (0xFFF00000, 0x08200000)
  | .fmsubS _ _ _ _ => (0xFFF00000, 0x08500000)
  | .fmsubD _ _ _ _ => (0xFFF00000, 0x08600000)
  | .fnmaddS _ _ _ _ => (0xFFF00000, 0x08900000)
  | .fnmaddD _ _ _ _ => (0xFFF00000, 0x08A00000)
  | .fnmsubS _ _ _ _ => (0xFFF00000, 0x08D00000)
  | .fnmsubD _ _ _ _ => (0xFFF00000, 0x08E00000)
  | .fcmpCondS _ _ _ _ => (0xFFF00000, 0x0C100000)
  | .fcmpCondD _ _ _ _ => (0xFFF00000, 0x0C200000)
  | .fsel _ _ _ _ => (0xFFFC0000, 0x0D000000)
  | .bceqz _ _ => (0xFC000300, 0x48000000)
  | .bcnez _ _ => (0xFC000300, 0x48000100)
  | .fldS _ _ _ => (0xFFC00000, 0x2B000000)
  | .fstS _ _ _ => (0xFFC00000, 0x2B400000)
  | .fldD _ _ _ => (0xFFC00000, 0x2B800000)
  | .fstD _ _ _ => (0xFFC00000, 0x2BC00000)

/-- A placed value under a mask that is 0 there. -/
theorem place_and_none (lo n : Nat) (v : BitVec n) (m : Word) (h : bits lo n m = 0#n) : place lo v &&& m = 0#32 := by
  apply BitVec.eq_of_getLsbD_eq
  intro i hi
  rw [BitVec.getLsbD_and, getLsbD_place, BitVec.getLsbD_zero]
  by_cases h1 : lo ≤ i
  · by_cases h2 : i - lo < n
    · have h3 := congrArg (·.getLsbD (i - lo)) h
      simp only [getLsbD_bits, h2, decide_true, Bool.true_and, Nat.add_sub_cancel' h1, BitVec.getLsbD_zero] at h3
      rw [h3, Bool.and_false]
    · rw [BitVec.getLsbD_of_ge v _ (by omega), Bool.and_false, Bool.false_and]
  · simp [Nat.lt_of_not_le h1]

/-- A placed value under a mask that is all ones there. -/
theorem place_and_all (lo n : Nat) (v : BitVec n) (m : Word) (h : bits lo n m = BitVec.allOnes n) :
    place lo v &&& m = place lo v := by
  apply BitVec.eq_of_getLsbD_eq
  intro i hi
  rw [BitVec.getLsbD_and, getLsbD_place]
  by_cases h1 : lo ≤ i
  · by_cases h2 : i - lo < n
    · have h3 := congrArg (·.getLsbD (i - lo)) h
      simp only [getLsbD_bits, h2, decide_true, Bool.true_and, Nat.add_sub_cancel' h1, BitVec.getLsbD_allOnes] at h3
      rw [h3, Bool.and_true]
    · rw [BitVec.getLsbD_of_ge v _ (by omega), Bool.and_false, Bool.false_and]
  · simp [Nat.lt_of_not_le h1]

/-- A word joined from two parts, under a mask. -/
theorem or_and (a b m x y : Word) (h1 : a &&& m = x) (h2 : b &&& m = y) : (a ||| b) &&& m = x ||| y := by
  rw [← h1, ← h2]
  apply BitVec.eq_of_getLsbD_eq
  intro i hi
  simp only [BitVec.getLsbD_and, BitVec.getLsbD_or]
  cases a.getLsbD i <;> cases b.getLsbD i <;> cases m.getLsbD i <;> rfl

theorem enc2R_masked0 (op : BitVec 22) (rj rd : BitVec 5) :
    enc2R op rj rd &&& 0xFFFFFC1F = place 10 op ||| 0#32 ||| place 0 rd :=
  or_and _ _ _ _ _ (or_and _ _ _ _ _ (place_and_all 10 22 _ _ (by decide))
    (place_and_none 5 5 _ _ (by decide)))
    (place_and_all 0 5 _ _ (by decide))

theorem enc2R_masked1 (op : BitVec 22) (rj rd : BitVec 5) :
    enc2R op rj rd &&& 0xFFFFFFE0 = place 10 op ||| place 5 rj ||| 0#32 :=
  or_and _ _ _ _ _ (or_and _ _ _ _ _ (place_and_all 10 22 _ _ (by decide))
    (place_and_all 5 5 _ _ (by decide)))
    (place_and_none 0 5 _ _ (by decide))

theorem enc3R_masked2 (op : BitVec 17) (rk rj rd : BitVec 5) :
    enc3R op rk rj rd &&& 0xFFFF8000 = place 15 op ||| 0#32 ||| 0#32 ||| 0#32 :=
  or_and _ _ _ _ _ (or_and _ _ _ _ _ (or_and _ _ _ _ _ (place_and_all 15 17 _ _ (by decide))
    (place_and_none 10 5 _ _ (by decide)))
    (place_and_none 5 5 _ _ (by decide)))
    (place_and_none 0 5 _ _ (by decide))

theorem encI15_masked3 (op : BitVec 17) (c : BitVec 15) :
    encI15 op c &&& 0xFFFF8000 = place 15 op ||| 0#32 :=
  or_and _ _ _ _ _ (place_and_all 15 17 _ _ (by decide))
    (place_and_none 0 15 _ _ (by decide))

theorem enc2RI12_masked4 (op : BitVec 10) (i : BitVec 12) (rj rd : BitVec 5) :
    enc2RI12 op i rj rd &&& 0xFFC00000 = place 22 op ||| 0#32 ||| 0#32 ||| 0#32 :=
  or_and _ _ _ _ _ (or_and _ _ _ _ _ (or_and _ _ _ _ _ (place_and_all 22 10 _ _ (by decide))
    (place_and_none 10 12 _ _ (by decide)))
    (place_and_none 5 5 _ _ (by decide)))
    (place_and_none 0 5 _ _ (by decide))

theorem enc2RI14_masked5 (op : BitVec 8) (i : BitVec 14) (rj rd : BitVec 5) :
    enc2RI14 op i rj rd &&& 0xFF0003E0 = place 24 op ||| 0#32 ||| place 5 rj ||| 0#32 :=
  or_and _ _ _ _ _ (or_and _ _ _ _ _ (or_and _ _ _ _ _ (place_and_all 24 8 _ _ (by decide))
    (place_and_none 10 14 _ _ (by decide)))
    (place_and_all 5 5 _ _ (by decide)))
    (place_and_none 0 5 _ _ (by decide))

theorem enc2RI14_masked6 (op : BitVec 8) (i : BitVec 14) (rj rd : BitVec 5) :
    enc2RI14 op i rj rd &&& 0xFF000000 = place 24 op ||| 0#32 ||| 0#32 ||| 0#32 :=
  or_and _ _ _ _ _ (or_and _ _ _ _ _ (or_and _ _ _ _ _ (place_and_all 24 8 _ _ (by decide))
    (place_and_none 10 14 _ _ (by decide)))
    (place_and_none 5 5 _ _ (by decide)))
    (place_and_none 0 5 _ _ (by decide))

theorem enc1RI20_masked7 (op : BitVec 7) (i : BitVec 20) (rd : BitVec 5) :
    enc1RI20 op i rd &&& 0xFE000000 = place 25 op ||| 0#32 ||| 0#32 :=
  or_and _ _ _ _ _ (or_and _ _ _ _ _ (place_and_all 25 7 _ _ (by decide))
    (place_and_none 5 20 _ _ (by decide)))
    (place_and_none 0 5 _ _ (by decide))

theorem enc2RI16_masked8 (op : BitVec 6) (i : BitVec 16) (rj rd : BitVec 5) :
    enc2RI16 op i rj rd &&& 0xFC000000 = place 26 op ||| 0#32 ||| 0#32 ||| 0#32 :=
  or_and _ _ _ _ _ (or_and _ _ _ _ _ (or_and _ _ _ _ _ (place_and_all 26 6 _ _ (by decide))
    (place_and_none 10 16 _ _ (by decide)))
    (place_and_none 5 5 _ _ (by decide)))
    (place_and_none 0 5 _ _ (by decide))

theorem encI26_masked9 (op : BitVec 6) (i : BitVec 26) :
    encI26 op i &&& 0xFC000000 = place 26 op ||| 0#32 ||| 0#32 :=
  or_and _ _ _ _ _ (or_and _ _ _ _ _ (place_and_all 26 6 _ _ (by decide))
    (place_and_none 10 16 _ _ (by decide)))
    (place_and_none 0 10 _ _ (by decide))

theorem enc2R_masked10 (op : BitVec 22) (rj rd : BitVec 5) :
    enc2R op rj rd &&& 0xFFFFFC00 = place 10 op ||| 0#32 ||| 0#32 :=
  or_and _ _ _ _ _ (or_and _ _ _ _ _ (place_and_all 10 22 _ _ (by decide))
    (place_and_none 5 5 _ _ (by decide)))
    (place_and_none 0 5 _ _ (by decide))

theorem enc4R_masked11 (op : BitVec 12) (ra rk rj rd : BitVec 5) :
    enc4R op ra rk rj rd &&& 0xFFF00000 = place 20 op ||| 0#32 ||| 0#32 ||| 0#32 ||| 0#32 :=
  or_and _ _ _ _ _ (or_and _ _ _ _ _ (or_and _ _ _ _ _ (or_and _ _ _ _ _ (place_and_all 20 12 _ _ (by decide))
    (place_and_none 15 5 _ _ (by decide)))
    (place_and_none 10 5 _ _ (by decide)))
    (place_and_none 5 5 _ _ (by decide)))
    (place_and_none 0 5 _ _ (by decide))

theorem encFsel_masked12 (op : BitVec 14) (ca : BitVec 3) (rk rj rd : BitVec 5) :
    encFsel op ca rk rj rd &&& 0xFFFC0000 = place 18 op ||| 0#32 ||| 0#32 ||| 0#32 ||| 0#32 :=
  or_and _ _ _ _ _ (or_and _ _ _ _ _ (or_and _ _ _ _ _ (or_and _ _ _ _ _ (place_and_all 18 14 _ _ (by decide))
    (place_and_none 15 3 _ _ (by decide)))
    (place_and_none 10 5 _ _ (by decide)))
    (place_and_none 5 5 _ _ (by decide)))
    (place_and_none 0 5 _ _ (by decide))

theorem encFloatBranch_masked13 (op : BitVec 6) (sel : BitVec 2) (cj : BitVec 3) (i : BitVec 21) :
    encFloatBranch op sel cj i &&& 0xFC000300 = place 26 op ||| 0#32 ||| place 8 sel ||| 0#32 ||| 0#32 :=
  or_and _ _ _ _ _ (or_and _ _ _ _ _ (or_and _ _ _ _ _ (or_and _ _ _ _ _ (place_and_all 26 6 _ _ (by decide))
    (place_and_none 10 16 _ _ (by decide)))
    (place_and_all 8 2 _ _ (by decide)))
    (place_and_none 5 3 _ _ (by decide)))
    (place_and_none 0 5 _ _ (by decide))

namespace Encoding

/-- The word of the instruction carries its table row's match value. -/
def Statement (i : Instr) : Prop := encode i &&& (tableRow i).1 = (tableRow i).2

theorem rdcntid (rj : BitVec 5) : Statement (.rdcntid rj) :=
  (enc2R_masked0 0x18#22 rj 0).trans (show _ = (0x00006000 : Word) by decide)
theorem rdcntvlW (rd : BitVec 5) : Statement (.rdcntvlW rd) :=
  (enc2R_masked1 0x18#22 0 rd).trans (show _ = (0x00006000 : Word) by decide)
theorem rdcntvhW (rd : BitVec 5) : Statement (.rdcntvhW rd) :=
  (enc2R_masked1 0x19#22 0 rd).trans (show _ = (0x00006400 : Word) by decide)
theorem addW (rd : BitVec 5) (rj : BitVec 5) (rk : BitVec 5) : Statement (.addW rd rj rk) :=
  (enc3R_masked2 0x20#17 rk rj rd).trans (show _ = (0x00100000 : Word) by decide)
theorem subW (rd : BitVec 5) (rj : BitVec 5) (rk : BitVec 5) : Statement (.subW rd rj rk) :=
  (enc3R_masked2 0x22#17 rk rj rd).trans (show _ = (0x00110000 : Word) by decide)
theorem slt (rd : BitVec 5) (rj : BitVec 5) (rk : BitVec 5) : Statement (.slt rd rj rk) :=
  (enc3R_masked2 0x24#17 rk rj rd).trans (show _ = (0x00120000 : Word) by decide)
theorem sltu (rd : BitVec 5) (rj : BitVec 5) (rk : BitVec 5) : Statement (.sltu rd rj rk) :=
  (enc3R_masked2 0x25#17 rk rj rd).trans (show _ = (0x00128000 : Word) by decide)
theorem norR (rd : BitVec 5) (rj : BitVec 5) (rk : BitVec 5) : Statement (.norR rd rj rk) :=
  (enc3R_masked2 0x28#17 rk rj rd).trans (show _ = (0x00140000 : Word) by decide)
theorem andR (rd : BitVec 5) (rj : BitVec 5) (rk : BitVec 5) : Statement (.andR rd rj rk) :=
  (enc3R_masked2 0x29#17 rk rj rd).trans (show _ = (0x00148000 : Word) by decide)
theorem orR (rd : BitVec 5) (rj : BitVec 5) (rk : BitVec 5) : Statement (.orR rd rj rk) :=
  (enc3R_masked2 0x2A#17 rk rj rd).trans (show _ = (0x00150000 : Word) by decide)
theorem xorR (rd : BitVec 5) (rj : BitVec 5) (rk : BitVec 5) : Statement (.xorR rd rj rk) :=
  (enc3R_masked2 0x2B#17 rk rj rd).trans (show _ = (0x00158000 : Word) by decide)
theorem sllW (rd : BitVec 5) (rj : BitVec 5) (rk : BitVec 5) : Statement (.sllW rd rj rk) :=
  (enc3R_masked2 0x2E#17 rk rj rd).trans (show _ = (0x00170000 : Word) by decide)
theorem srlW (rd : BitVec 5) (rj : BitVec 5) (rk : BitVec 5) : Statement (.srlW rd rj rk) :=
  (enc3R_masked2 0x2F#17 rk rj rd).trans (show _ = (0x00178000 : Word) by decide)
theorem sraW (rd : BitVec 5) (rj : BitVec 5) (rk : BitVec 5) : Statement (.sraW rd rj rk) :=
  (enc3R_masked2 0x30#17 rk rj rd).trans (show _ = (0x00180000 : Word) by decide)
theorem mulW (rd : BitVec 5) (rj : BitVec 5) (rk : BitVec 5) : Statement (.mulW rd rj rk) :=
  (enc3R_masked2 0x38#17 rk rj rd).trans (show _ = (0x001C0000 : Word) by decide)
theorem mulhW (rd : BitVec 5) (rj : BitVec 5) (rk : BitVec 5) : Statement (.mulhW rd rj rk) :=
  (enc3R_masked2 0x39#17 rk rj rd).trans (show _ = (0x001C8000 : Word) by decide)
theorem mulhWu (rd : BitVec 5) (rj : BitVec 5) (rk : BitVec 5) : Statement (.mulhWu rd rj rk) :=
  (enc3R_masked2 0x3A#17 rk rj rd).trans (show _ = (0x001D0000 : Word) by decide)
theorem divW (rd : BitVec 5) (rj : BitVec 5) (rk : BitVec 5) : Statement (.divW rd rj rk) :=
  (enc3R_masked2 0x40#17 rk rj rd).trans (show _ = (0x00200000 : Word) by decide)
theorem modW (rd : BitVec 5) (rj : BitVec 5) (rk : BitVec 5) : Statement (.modW rd rj rk) :=
  (enc3R_masked2 0x41#17 rk rj rd).trans (show _ = (0x00208000 : Word) by decide)
theorem divWu (rd : BitVec 5) (rj : BitVec 5) (rk : BitVec 5) : Statement (.divWu rd rj rk) :=
  (enc3R_masked2 0x42#17 rk rj rd).trans (show _ = (0x00210000 : Word) by decide)
theorem modWu (rd : BitVec 5) (rj : BitVec 5) (rk : BitVec 5) : Statement (.modWu rd rj rk) :=
  (enc3R_masked2 0x43#17 rk rj rd).trans (show _ = (0x00218000 : Word) by decide)
theorem breakI (code : BitVec 15) : Statement (.breakI code) :=
  (encI15_masked3 0x54#17 code).trans (show _ = (0x002A0000 : Word) by decide)
theorem syscallI (code : BitVec 15) : Statement (.syscallI code) :=
  (encI15_masked3 0x56#17 code).trans (show _ = (0x002B0000 : Word) by decide)
theorem slliW (rd : BitVec 5) (rj : BitVec 5) (ui5 : BitVec 5) : Statement (.slliW rd rj ui5) :=
  (enc3R_masked2 0x81#17 ui5 rj rd).trans (show _ = (0x00408000 : Word) by decide)
theorem srliW (rd : BitVec 5) (rj : BitVec 5) (ui5 : BitVec 5) : Statement (.srliW rd rj ui5) :=
  (enc3R_masked2 0x89#17 ui5 rj rd).trans (show _ = (0x00448000 : Word) by decide)
theorem sraiW (rd : BitVec 5) (rj : BitVec 5) (ui5 : BitVec 5) : Statement (.sraiW rd rj ui5) :=
  (enc3R_masked2 0x91#17 ui5 rj rd).trans (show _ = (0x00488000 : Word) by decide)
theorem slti (rd : BitVec 5) (rj : BitVec 5) (si12 : BitVec 12) : Statement (.slti rd rj si12) :=
  (enc2RI12_masked4 0x8#10 si12 rj rd).trans (show _ = (0x02000000 : Word) by decide)
theorem sltui (rd : BitVec 5) (rj : BitVec 5) (si12 : BitVec 12) : Statement (.sltui rd rj si12) :=
  (enc2RI12_masked4 0x9#10 si12 rj rd).trans (show _ = (0x02400000 : Word) by decide)
theorem addiW (rd : BitVec 5) (rj : BitVec 5) (si12 : BitVec 12) : Statement (.addiW rd rj si12) :=
  (enc2RI12_masked4 0xA#10 si12 rj rd).trans (show _ = (0x02800000 : Word) by decide)
theorem andi (rd : BitVec 5) (rj : BitVec 5) (ui12 : BitVec 12) : Statement (.andi rd rj ui12) :=
  (enc2RI12_masked4 0xD#10 ui12 rj rd).trans (show _ = (0x03400000 : Word) by decide)
theorem ori (rd : BitVec 5) (rj : BitVec 5) (ui12 : BitVec 12) : Statement (.ori rd rj ui12) :=
  (enc2RI12_masked4 0xE#10 ui12 rj rd).trans (show _ = (0x03800000 : Word) by decide)
theorem xori (rd : BitVec 5) (rj : BitVec 5) (ui12 : BitVec 12) : Statement (.xori rd rj ui12) :=
  (enc2RI12_masked4 0xF#10 ui12 rj rd).trans (show _ = (0x03C00000 : Word) by decide)
theorem csrrd (rd : BitVec 5) (num : BitVec 14) : Statement (.csrrd rd num) :=
  (enc2RI14_masked5 0x4#8 num 0 rd).trans (show _ = (0x04000000 : Word) by decide)
theorem csrwr (rd : BitVec 5) (num : BitVec 14) : Statement (.csrwr rd num) :=
  (enc2RI14_masked5 0x4#8 num 1 rd).trans (show _ = (0x04000020 : Word) by decide)
theorem csrxchg (rd : BitVec 5) (rj : BitVec 5) (num : BitVec 14) : Statement (.csrxchg rd rj num) :=
  (enc2RI14_masked6 0x4#8 num rj rd).trans (show _ = (0x04000000 : Word) by decide)
theorem cacop (code : BitVec 5) (rj : BitVec 5) (si12 : BitVec 12) : Statement (.cacop code rj si12) :=
  (enc2RI12_masked4 0x18#10 si12 rj code).trans (show _ = (0x06000000 : Word) by decide)
theorem tlbsrch : Statement .tlbsrch := by unfold Statement; decide
theorem tlbrd : Statement .tlbrd := by unfold Statement; decide
theorem tlbwr : Statement .tlbwr := by unfold Statement; decide
theorem tlbfill : Statement .tlbfill := by unfold Statement; decide
theorem ertn : Statement .ertn := by unfold Statement; decide
theorem idle (level : BitVec 15) : Statement (.idle level) :=
  (encI15_masked3 0xC91#17 level).trans (show _ = (0x06488000 : Word) by decide)
theorem invtlb (op : BitVec 5) (rj : BitVec 5) (rk : BitVec 5) : Statement (.invtlb op rj rk) :=
  (enc3R_masked2 0xC93#17 rk rj op).trans (show _ = (0x06498000 : Word) by decide)
theorem lu12iW (rd : BitVec 5) (si20 : BitVec 20) : Statement (.lu12iW rd si20) :=
  (enc1RI20_masked7 0xA#7 si20 rd).trans (show _ = (0x14000000 : Word) by decide)
theorem pcaddu12i (rd : BitVec 5) (si20 : BitVec 20) : Statement (.pcaddu12i rd si20) :=
  (enc1RI20_masked7 0xE#7 si20 rd).trans (show _ = (0x1C000000 : Word) by decide)
theorem llW (rd : BitVec 5) (rj : BitVec 5) (si14 : BitVec 14) : Statement (.llW rd rj si14) :=
  (enc2RI14_masked6 0x20#8 si14 rj rd).trans (show _ = (0x20000000 : Word) by decide)
theorem scW (rd : BitVec 5) (rj : BitVec 5) (si14 : BitVec 14) : Statement (.scW rd rj si14) :=
  (enc2RI14_masked6 0x21#8 si14 rj rd).trans (show _ = (0x21000000 : Word) by decide)
theorem ldB (rd : BitVec 5) (rj : BitVec 5) (si12 : BitVec 12) : Statement (.ldB rd rj si12) :=
  (enc2RI12_masked4 0xA0#10 si12 rj rd).trans (show _ = (0x28000000 : Word) by decide)
theorem ldH (rd : BitVec 5) (rj : BitVec 5) (si12 : BitVec 12) : Statement (.ldH rd rj si12) :=
  (enc2RI12_masked4 0xA1#10 si12 rj rd).trans (show _ = (0x28400000 : Word) by decide)
theorem ldW (rd : BitVec 5) (rj : BitVec 5) (si12 : BitVec 12) : Statement (.ldW rd rj si12) :=
  (enc2RI12_masked4 0xA2#10 si12 rj rd).trans (show _ = (0x28800000 : Word) by decide)
theorem stB (rd : BitVec 5) (rj : BitVec 5) (si12 : BitVec 12) : Statement (.stB rd rj si12) :=
  (enc2RI12_masked4 0xA4#10 si12 rj rd).trans (show _ = (0x29000000 : Word) by decide)
theorem stH (rd : BitVec 5) (rj : BitVec 5) (si12 : BitVec 12) : Statement (.stH rd rj si12) :=
  (enc2RI12_masked4 0xA5#10 si12 rj rd).trans (show _ = (0x29400000 : Word) by decide)
theorem stW (rd : BitVec 5) (rj : BitVec 5) (si12 : BitVec 12) : Statement (.stW rd rj si12) :=
  (enc2RI12_masked4 0xA6#10 si12 rj rd).trans (show _ = (0x29800000 : Word) by decide)
theorem ldBu (rd : BitVec 5) (rj : BitVec 5) (si12 : BitVec 12) : Statement (.ldBu rd rj si12) :=
  (enc2RI12_masked4 0xA8#10 si12 rj rd).trans (show _ = (0x2A000000 : Word) by decide)
theorem ldHu (rd : BitVec 5) (rj : BitVec 5) (si12 : BitVec 12) : Statement (.ldHu rd rj si12) :=
  (enc2RI12_masked4 0xA9#10 si12 rj rd).trans (show _ = (0x2A400000 : Word) by decide)
theorem preld (hint : BitVec 5) (rj : BitVec 5) (si12 : BitVec 12) : Statement (.preld hint rj si12) :=
  (enc2RI12_masked4 0xAB#10 si12 rj hint).trans (show _ = (0x2AC00000 : Word) by decide)
theorem dbar (hint : BitVec 15) : Statement (.dbar hint) :=
  (encI15_masked3 0x70E4#17 hint).trans (show _ = (0x38720000 : Word) by decide)
theorem ibar (hint : BitVec 15) : Statement (.ibar hint) :=
  (encI15_masked3 0x70E5#17 hint).trans (show _ = (0x38728000 : Word) by decide)
theorem jirl (rd : BitVec 5) (rj : BitVec 5) (offs16 : BitVec 16) : Statement (.jirl rd rj offs16) :=
  (enc2RI16_masked8 0x13#6 offs16 rj rd).trans (show _ = (0x4C000000 : Word) by decide)
theorem b (offs26 : BitVec 26) : Statement (.b offs26) :=
  (encI26_masked9 0x14#6 offs26).trans (show _ = (0x50000000 : Word) by decide)
theorem bl (offs26 : BitVec 26) : Statement (.bl offs26) :=
  (encI26_masked9 0x15#6 offs26).trans (show _ = (0x54000000 : Word) by decide)
theorem beq (rj : BitVec 5) (rd : BitVec 5) (offs16 : BitVec 16) : Statement (.beq rj rd offs16) :=
  (enc2RI16_masked8 0x16#6 offs16 rj rd).trans (show _ = (0x58000000 : Word) by decide)
theorem bne (rj : BitVec 5) (rd : BitVec 5) (offs16 : BitVec 16) : Statement (.bne rj rd offs16) :=
  (enc2RI16_masked8 0x17#6 offs16 rj rd).trans (show _ = (0x5C000000 : Word) by decide)
theorem blt (rj : BitVec 5) (rd : BitVec 5) (offs16 : BitVec 16) : Statement (.blt rj rd offs16) :=
  (enc2RI16_masked8 0x18#6 offs16 rj rd).trans (show _ = (0x60000000 : Word) by decide)
theorem bge (rj : BitVec 5) (rd : BitVec 5) (offs16 : BitVec 16) : Statement (.bge rj rd offs16) :=
  (enc2RI16_masked8 0x19#6 offs16 rj rd).trans (show _ = (0x64000000 : Word) by decide)
theorem bltu (rj : BitVec 5) (rd : BitVec 5) (offs16 : BitVec 16) : Statement (.bltu rj rd offs16) :=
  (enc2RI16_masked8 0x1A#6 offs16 rj rd).trans (show _ = (0x68000000 : Word) by decide)
theorem bgeu (rj : BitVec 5) (rd : BitVec 5) (offs16 : BitVec 16) : Statement (.bgeu rj rd offs16) :=
  (enc2RI16_masked8 0x1B#6 offs16 rj rd).trans (show _ = (0x6C000000 : Word) by decide)
theorem faddS (fd : BitVec 5) (fj : BitVec 5) (fk : BitVec 5) : Statement (.faddS fd fj fk) :=
  (enc3R_masked2 0x201#17 fk fj fd).trans (show _ = (0x01008000 : Word) by decide)
theorem faddD (fd : BitVec 5) (fj : BitVec 5) (fk : BitVec 5) : Statement (.faddD fd fj fk) :=
  (enc3R_masked2 0x202#17 fk fj fd).trans (show _ = (0x01010000 : Word) by decide)
theorem fsubS (fd : BitVec 5) (fj : BitVec 5) (fk : BitVec 5) : Statement (.fsubS fd fj fk) :=
  (enc3R_masked2 0x205#17 fk fj fd).trans (show _ = (0x01028000 : Word) by decide)
theorem fsubD (fd : BitVec 5) (fj : BitVec 5) (fk : BitVec 5) : Statement (.fsubD fd fj fk) :=
  (enc3R_masked2 0x206#17 fk fj fd).trans (show _ = (0x01030000 : Word) by decide)
theorem fmulS (fd : BitVec 5) (fj : BitVec 5) (fk : BitVec 5) : Statement (.fmulS fd fj fk) :=
  (enc3R_masked2 0x209#17 fk fj fd).trans (show _ = (0x01048000 : Word) by decide)
theorem fmulD (fd : BitVec 5) (fj : BitVec 5) (fk : BitVec 5) : Statement (.fmulD fd fj fk) :=
  (enc3R_masked2 0x20A#17 fk fj fd).trans (show _ = (0x01050000 : Word) by decide)
theorem fdivS (fd : BitVec 5) (fj : BitVec 5) (fk : BitVec 5) : Statement (.fdivS fd fj fk) :=
  (enc3R_masked2 0x20D#17 fk fj fd).trans (show _ = (0x01068000 : Word) by decide)
theorem fdivD (fd : BitVec 5) (fj : BitVec 5) (fk : BitVec 5) : Statement (.fdivD fd fj fk) :=
  (enc3R_masked2 0x20E#17 fk fj fd).trans (show _ = (0x01070000 : Word) by decide)
theorem fmaxS (fd : BitVec 5) (fj : BitVec 5) (fk : BitVec 5) : Statement (.fmaxS fd fj fk) :=
  (enc3R_masked2 0x211#17 fk fj fd).trans (show _ = (0x01088000 : Word) by decide)
theorem fmaxD (fd : BitVec 5) (fj : BitVec 5) (fk : BitVec 5) : Statement (.fmaxD fd fj fk) :=
  (enc3R_masked2 0x212#17 fk fj fd).trans (show _ = (0x01090000 : Word) by decide)
theorem fminS (fd : BitVec 5) (fj : BitVec 5) (fk : BitVec 5) : Statement (.fminS fd fj fk) :=
  (enc3R_masked2 0x215#17 fk fj fd).trans (show _ = (0x010A8000 : Word) by decide)
theorem fminD (fd : BitVec 5) (fj : BitVec 5) (fk : BitVec 5) : Statement (.fminD fd fj fk) :=
  (enc3R_masked2 0x216#17 fk fj fd).trans (show _ = (0x010B0000 : Word) by decide)
theorem fmaxaS (fd : BitVec 5) (fj : BitVec 5) (fk : BitVec 5) : Statement (.fmaxaS fd fj fk) :=
  (enc3R_masked2 0x219#17 fk fj fd).trans (show _ = (0x010C8000 : Word) by decide)
theorem fmaxaD (fd : BitVec 5) (fj : BitVec 5) (fk : BitVec 5) : Statement (.fmaxaD fd fj fk) :=
  (enc3R_masked2 0x21A#17 fk fj fd).trans (show _ = (0x010D0000 : Word) by decide)
theorem fminaS (fd : BitVec 5) (fj : BitVec 5) (fk : BitVec 5) : Statement (.fminaS fd fj fk) :=
  (enc3R_masked2 0x21D#17 fk fj fd).trans (show _ = (0x010E8000 : Word) by decide)
theorem fminaD (fd : BitVec 5) (fj : BitVec 5) (fk : BitVec 5) : Statement (.fminaD fd fj fk) :=
  (enc3R_masked2 0x21E#17 fk fj fd).trans (show _ = (0x010F0000 : Word) by decide)
theorem fcopysignS (fd : BitVec 5) (fj : BitVec 5) (fk : BitVec 5) : Statement (.fcopysignS fd fj fk) :=
  (enc3R_masked2 0x225#17 fk fj fd).trans (show _ = (0x01128000 : Word) by decide)
theorem fcopysignD (fd : BitVec 5) (fj : BitVec 5) (fk : BitVec 5) : Statement (.fcopysignD fd fj fk) :=
  (enc3R_masked2 0x226#17 fk fj fd).trans (show _ = (0x01130000 : Word) by decide)
theorem fabsS (fd : BitVec 5) (fj : BitVec 5) : Statement (.fabsS fd fj) :=
  (enc2R_masked10 0x4501#22 fj fd).trans (show _ = (0x01140400 : Word) by decide)
theorem fabsD (fd : BitVec 5) (fj : BitVec 5) : Statement (.fabsD fd fj) :=
  (enc2R_masked10 0x4502#22 fj fd).trans (show _ = (0x01140800 : Word) by decide)
theorem fnegS (fd : BitVec 5) (fj : BitVec 5) : Statement (.fnegS fd fj) :=
  (enc2R_masked10 0x4505#22 fj fd).trans (show _ = (0x01141400 : Word) by decide)
theorem fnegD (fd : BitVec 5) (fj : BitVec 5) : Statement (.fnegD fd fj) :=
  (enc2R_masked10 0x4506#22 fj fd).trans (show _ = (0x01141800 : Word) by decide)
theorem fclassS (fd : BitVec 5) (fj : BitVec 5) : Statement (.fclassS fd fj) :=
  (enc2R_masked10 0x450D#22 fj fd).trans (show _ = (0x01143400 : Word) by decide)
theorem fclassD (fd : BitVec 5) (fj : BitVec 5) : Statement (.fclassD fd fj) :=
  (enc2R_masked10 0x450E#22 fj fd).trans (show _ = (0x01143800 : Word) by decide)
theorem fsqrtS (fd : BitVec 5) (fj : BitVec 5) : Statement (.fsqrtS fd fj) :=
  (enc2R_masked10 0x4511#22 fj fd).trans (show _ = (0x01144400 : Word) by decide)
theorem fsqrtD (fd : BitVec 5) (fj : BitVec 5) : Statement (.fsqrtD fd fj) :=
  (enc2R_masked10 0x4512#22 fj fd).trans (show _ = (0x01144800 : Word) by decide)
theorem frecipS (fd : BitVec 5) (fj : BitVec 5) : Statement (.frecipS fd fj) :=
  (enc2R_masked10 0x4515#22 fj fd).trans (show _ = (0x01145400 : Word) by decide)
theorem frecipD (fd : BitVec 5) (fj : BitVec 5) : Statement (.frecipD fd fj) :=
  (enc2R_masked10 0x4516#22 fj fd).trans (show _ = (0x01145800 : Word) by decide)
theorem frsqrtS (fd : BitVec 5) (fj : BitVec 5) : Statement (.frsqrtS fd fj) :=
  (enc2R_masked10 0x4519#22 fj fd).trans (show _ = (0x01146400 : Word) by decide)
theorem frsqrtD (fd : BitVec 5) (fj : BitVec 5) : Statement (.frsqrtD fd fj) :=
  (enc2R_masked10 0x451A#22 fj fd).trans (show _ = (0x01146800 : Word) by decide)
theorem fmovS (fd : BitVec 5) (fj : BitVec 5) : Statement (.fmovS fd fj) :=
  (enc2R_masked10 0x4525#22 fj fd).trans (show _ = (0x01149400 : Word) by decide)
theorem fmovD (fd : BitVec 5) (fj : BitVec 5) : Statement (.fmovD fd fj) :=
  (enc2R_masked10 0x4526#22 fj fd).trans (show _ = (0x01149800 : Word) by decide)
theorem movgr2frW (fd : BitVec 5) (rj : BitVec 5) : Statement (.movgr2frW fd rj) :=
  (enc2R_masked10 0x4529#22 rj fd).trans (show _ = (0x0114A400 : Word) by decide)
theorem movgr2frhW (fd : BitVec 5) (rj : BitVec 5) : Statement (.movgr2frhW fd rj) :=
  (enc2R_masked10 0x452B#22 rj fd).trans (show _ = (0x0114AC00 : Word) by decide)
theorem movfr2grS (rd : BitVec 5) (fj : BitVec 5) : Statement (.movfr2grS rd fj) :=
  (enc2R_masked10 0x452D#22 fj rd).trans (show _ = (0x0114B400 : Word) by decide)
theorem movfrh2grS (rd : BitVec 5) (fj : BitVec 5) : Statement (.movfrh2grS rd fj) :=
  (enc2R_masked10 0x452F#22 fj rd).trans (show _ = (0x0114BC00 : Word) by decide)
theorem movgr2fcsr (fcsr : BitVec 5) (rj : BitVec 5) : Statement (.movgr2fcsr fcsr rj) :=
  (enc2R_masked10 0x4530#22 rj fcsr).trans (show _ = (0x0114C000 : Word) by decide)
theorem movfcsr2gr (rd : BitVec 5) (fcsr : BitVec 5) : Statement (.movfcsr2gr rd fcsr) :=
  (enc2R_masked10 0x4532#22 fcsr rd).trans (show _ = (0x0114C800 : Word) by decide)
theorem movfr2cf (cd : BitVec 5) (fj : BitVec 5) : Statement (.movfr2cf cd fj) :=
  (enc2R_masked10 0x4534#22 fj cd).trans (show _ = (0x0114D000 : Word) by decide)
theorem movcf2fr (fd : BitVec 5) (cj : BitVec 5) : Statement (.movcf2fr fd cj) :=
  (enc2R_masked10 0x4535#22 cj fd).trans (show _ = (0x0114D400 : Word) by decide)
theorem movgr2cf (cd : BitVec 5) (rj : BitVec 5) : Statement (.movgr2cf cd rj) :=
  (enc2R_masked10 0x4536#22 rj cd).trans (show _ = (0x0114D800 : Word) by decide)
theorem movcf2gr (rd : BitVec 5) (cj : BitVec 5) : Statement (.movcf2gr rd cj) :=
  (enc2R_masked10 0x4537#22 cj rd).trans (show _ = (0x0114DC00 : Word) by decide)
theorem fcvtSD (fd : BitVec 5) (fj : BitVec 5) : Statement (.fcvtSD fd fj) :=
  (enc2R_masked10 0x4646#22 fj fd).trans (show _ = (0x01191800 : Word) by decide)
theorem fcvtDS (fd : BitVec 5) (fj : BitVec 5) : Statement (.fcvtDS fd fj) :=
  (enc2R_masked10 0x4649#22 fj fd).trans (show _ = (0x01192400 : Word) by decide)
theorem ftintrmWS (fd : BitVec 5) (fj : BitVec 5) : Statement (.ftintrmWS fd fj) :=
  (enc2R_masked10 0x4681#22 fj fd).trans (show _ = (0x011A0400 : Word) by decide)
theorem ftintrmWD (fd : BitVec 5) (fj : BitVec 5) : Statement (.ftintrmWD fd fj) :=
  (enc2R_masked10 0x4682#22 fj fd).trans (show _ = (0x011A0800 : Word) by decide)
theorem ftintrpWS (fd : BitVec 5) (fj : BitVec 5) : Statement (.ftintrpWS fd fj) :=
  (enc2R_masked10 0x4691#22 fj fd).trans (show _ = (0x011A4400 : Word) by decide)
theorem ftintrpWD (fd : BitVec 5) (fj : BitVec 5) : Statement (.ftintrpWD fd fj) :=
  (enc2R_masked10 0x4692#22 fj fd).trans (show _ = (0x011A4800 : Word) by decide)
theorem ftintrzWS (fd : BitVec 5) (fj : BitVec 5) : Statement (.ftintrzWS fd fj) :=
  (enc2R_masked10 0x46A1#22 fj fd).trans (show _ = (0x011A8400 : Word) by decide)
theorem ftintrzWD (fd : BitVec 5) (fj : BitVec 5) : Statement (.ftintrzWD fd fj) :=
  (enc2R_masked10 0x46A2#22 fj fd).trans (show _ = (0x011A8800 : Word) by decide)
theorem ftintrneWS (fd : BitVec 5) (fj : BitVec 5) : Statement (.ftintrneWS fd fj) :=
  (enc2R_masked10 0x46B1#22 fj fd).trans (show _ = (0x011AC400 : Word) by decide)
theorem ftintrneWD (fd : BitVec 5) (fj : BitVec 5) : Statement (.ftintrneWD fd fj) :=
  (enc2R_masked10 0x46B2#22 fj fd).trans (show _ = (0x011AC800 : Word) by decide)
theorem ftintWS (fd : BitVec 5) (fj : BitVec 5) : Statement (.ftintWS fd fj) :=
  (enc2R_masked10 0x46C1#22 fj fd).trans (show _ = (0x011B0400 : Word) by decide)
theorem ftintWD (fd : BitVec 5) (fj : BitVec 5) : Statement (.ftintWD fd fj) :=
  (enc2R_masked10 0x46C2#22 fj fd).trans (show _ = (0x011B0800 : Word) by decide)
theorem ffintSW (fd : BitVec 5) (fj : BitVec 5) : Statement (.ffintSW fd fj) :=
  (enc2R_masked10 0x4744#22 fj fd).trans (show _ = (0x011D1000 : Word) by decide)
theorem ffintDW (fd : BitVec 5) (fj : BitVec 5) : Statement (.ffintDW fd fj) :=
  (enc2R_masked10 0x4748#22 fj fd).trans (show _ = (0x011D2000 : Word) by decide)
theorem fmaddS (fd : BitVec 5) (fj : BitVec 5) (fk : BitVec 5) (fa : BitVec 5) : Statement (.fmaddS fd fj fk fa) :=
  (enc4R_masked11 0x81#12 fa fk fj fd).trans (show _ = (0x08100000 : Word) by decide)
theorem fmaddD (fd : BitVec 5) (fj : BitVec 5) (fk : BitVec 5) (fa : BitVec 5) : Statement (.fmaddD fd fj fk fa) :=
  (enc4R_masked11 0x82#12 fa fk fj fd).trans (show _ = (0x08200000 : Word) by decide)
theorem fmsubS (fd : BitVec 5) (fj : BitVec 5) (fk : BitVec 5) (fa : BitVec 5) : Statement (.fmsubS fd fj fk fa) :=
  (enc4R_masked11 0x85#12 fa fk fj fd).trans (show _ = (0x08500000 : Word) by decide)
theorem fmsubD (fd : BitVec 5) (fj : BitVec 5) (fk : BitVec 5) (fa : BitVec 5) : Statement (.fmsubD fd fj fk fa) :=
  (enc4R_masked11 0x86#12 fa fk fj fd).trans (show _ = (0x08600000 : Word) by decide)
theorem fnmaddS (fd : BitVec 5) (fj : BitVec 5) (fk : BitVec 5) (fa : BitVec 5) : Statement (.fnmaddS fd fj fk fa) :=
  (enc4R_masked11 0x89#12 fa fk fj fd).trans (show _ = (0x08900000 : Word) by decide)
theorem fnmaddD (fd : BitVec 5) (fj : BitVec 5) (fk : BitVec 5) (fa : BitVec 5) : Statement (.fnmaddD fd fj fk fa) :=
  (enc4R_masked11 0x8A#12 fa fk fj fd).trans (show _ = (0x08A00000 : Word) by decide)
theorem fnmsubS (fd : BitVec 5) (fj : BitVec 5) (fk : BitVec 5) (fa : BitVec 5) : Statement (.fnmsubS fd fj fk fa) :=
  (enc4R_masked11 0x8D#12 fa fk fj fd).trans (show _ = (0x08D00000 : Word) by decide)
theorem fnmsubD (fd : BitVec 5) (fj : BitVec 5) (fk : BitVec 5) (fa : BitVec 5) : Statement (.fnmsubD fd fj fk fa) :=
  (enc4R_masked11 0x8E#12 fa fk fj fd).trans (show _ = (0x08E00000 : Word) by decide)
theorem fcmpCondS (cond : BitVec 5) (cd : BitVec 5) (fj : BitVec 5) (fk : BitVec 5) : Statement (.fcmpCondS cond cd fj fk) :=
  (enc4R_masked11 0xC1#12 cond fk fj cd).trans (show _ = (0x0C100000 : Word) by decide)
theorem fcmpCondD (cond : BitVec 5) (cd : BitVec 5) (fj : BitVec 5) (fk : BitVec 5) : Statement (.fcmpCondD cond cd fj fk) :=
  (enc4R_masked11 0xC2#12 cond fk fj cd).trans (show _ = (0x0C200000 : Word) by decide)
theorem fsel (fd : BitVec 5) (fj : BitVec 5) (fk : BitVec 5) (ca : BitVec 3) : Statement (.fsel fd fj fk ca) :=
  (encFsel_masked12 0x340#14 ca fk fj fd).trans (show _ = (0x0D000000 : Word) by decide)
theorem bceqz (cj : BitVec 3) (offs21 : BitVec 21) : Statement (.bceqz cj offs21) :=
  (encFloatBranch_masked13 0x12#6 0 cj offs21).trans (show _ = (0x48000000 : Word) by decide)
theorem bcnez (cj : BitVec 3) (offs21 : BitVec 21) : Statement (.bcnez cj offs21) :=
  (encFloatBranch_masked13 0x12#6 1 cj offs21).trans (show _ = (0x48000100 : Word) by decide)
theorem fldS (fd : BitVec 5) (rj : BitVec 5) (si12 : BitVec 12) : Statement (.fldS fd rj si12) :=
  (enc2RI12_masked4 0xAC#10 si12 rj fd).trans (show _ = (0x2B000000 : Word) by decide)
theorem fstS (fd : BitVec 5) (rj : BitVec 5) (si12 : BitVec 12) : Statement (.fstS fd rj si12) :=
  (enc2RI12_masked4 0xAD#10 si12 rj fd).trans (show _ = (0x2B400000 : Word) by decide)
theorem fldD (fd : BitVec 5) (rj : BitVec 5) (si12 : BitVec 12) : Statement (.fldD fd rj si12) :=
  (enc2RI12_masked4 0xAE#10 si12 rj fd).trans (show _ = (0x2B800000 : Word) by decide)
theorem fstD (fd : BitVec 5) (rj : BitVec 5) (si12 : BitVec 12) : Statement (.fstD fd rj si12) :=
  (enc2RI12_masked4 0xAF#10 si12 rj fd).trans (show _ = (0x2BC00000 : Word) by decide)

end Encoding

end Sys2Proof.Laws
end

