-- ==== Sys2Proof/Laws/Translate.lean ====
section
/-! SUPPORT. What a TLB lookup can answer (20_memory.md R126 to R129), the index register and the packed entry registers
(47_privileged.md R360, R361). -/

namespace Sys2Proof.Machine

open Sys2Proof

/-- The entries a lookup matches, with their indexes (R126). -/
theorem mem_tlbMatches (t : List TlbEntry) (a : BitVec 10) (va : Word) (e : TlbEntry) (n : Nat) :
    (e, n) ∈ tlbMatches t a va ↔ t[n]? = some e ∧ inSpace a e = true ∧ vppnMatches e va = true := by
  simp [tlbMatches, List.mem_filter, List.mem_zipIdx_iff_getElem?]

/-- No entry is matched twice. -/
theorem nodup_tlbMatches (t : List TlbEntry) (a : BitVec 10) (va : Word) : (tlbMatches t a va).Nodup := by
  unfold tlbMatches
  apply List.Nodup.filter
  apply List.Nodup.of_map Prod.snd
  rw [List.zipIdx_map_snd]
  exact List.nodup_range'

/-- Where every entry of the address space has a legal page size, no lookup is refused (R129). -/
theorem any_illegalSize_false (s : State) (h : ∀ e ∈ s.tlb, inSpace (asidAsid s.csr) e = true → legalPs s.cfg e.ps = true) : s.tlb.any (illegalSize s.cfg (asidAsid s.csr)) = false := by
  rw [List.any_eq_false]
  intro e he hc
  simp only [illegalSize, Bool.and_eq_true, Bool.not_eq_true'] at hc
  rw [h e he hc.1] at hc; simp at hc

/-- A lookup that finds nothing (R126). -/
theorem tlbLookup_none {s : State} {va : Word} (hl : ∀ e ∈ s.tlb, inSpace (asidAsid s.csr) e = true → legalPs s.cfg e.ps = true)
   (h : ∀ e ∈ s.tlb, inSpace (asidAsid s.csr) e = true → vppnMatches e va = false) : tlbLookup s va = .ok none := by
  unfold tlbLookup
  rw [any_illegalSize_false s hl]
  have : tlbMatches s.tlb (asidAsid s.csr) va = [] := by
    rw [List.eq_nil_iff_forall_not_mem]
    rintro ⟨e, n⟩ hm
    rw [mem_tlbMatches] at hm
    have := h e (List.mem_of_getElem? hm.1) hm.2.1
    rw [this] at hm; exact absurd hm.2.2 (by decide)
  simp [this]

/-- A lookup with one matching entry (R126). -/
theorem tlbLookup_one {s : State} {va : Word} (hl : ∀ e ∈ s.tlb, inSpace (asidAsid s.csr) e = true → legalPs s.cfg e.ps = true)
   {n : Nat} {e : TlbEntry} (h1 : s.tlb[n]? = some e) (h2 : inSpace (asidAsid s.csr) e = true) (h3 : vppnMatches e va = true)
   (hu : ∀ (m : Nat) (f : TlbEntry), s.tlb[m]? = some f → inSpace (asidAsid s.csr) f = true → vppnMatches f va = true → m = n) : tlbLookup s va = .ok (some (e, n)) := by
  unfold tlbLookup
  rw [any_illegalSize_false s hl]
  have hm := (mem_tlbMatches s.tlb (asidAsid s.csr) va e n).2 ⟨h1, h2, h3⟩
  have hall : ∀ p ∈ tlbMatches s.tlb (asidAsid s.csr) va, p = (e, n) := by
    rintro ⟨f, m⟩ hf
    rw [mem_tlbMatches] at hf
    have := hu m f hf.1 hf.2.1 hf.2.2
    subst this
    rw [h1] at hf; simp at hf; simp [hf.1]
  have nd := nodup_tlbMatches s.tlb (asidAsid s.csr) va
  cases hx : tlbMatches s.tlb (asidAsid s.csr) va with
  | nil => rw [hx] at hm; simp at hm
  | cons p r =>
    cases r with
    | nil => rw [hx] at hm; simp at hm; simp [hm]
    | cons q r =>
      rw [hx] at nd hall
      have a := hall p (by simp); have b := hall q (by simp)
      subst a; subst b; simp at nd

/-- A lookup with two matching entries is a fault (R128). -/
theorem tlbLookup_many {s : State} {va : Word} (hl : ∀ e ∈ s.tlb, inSpace (asidAsid s.csr) e = true → legalPs s.cfg e.ps = true)
   {m n : Nat} {e f : TlbEntry} (hne : m ≠ n) (h1 : s.tlb[m]? = some e) (h2 : s.tlb[n]? = some f) (h3 : inSpace (asidAsid s.csr) e = true) (h4 : vppnMatches e va = true) (h5 : inSpace (asidAsid s.csr) f = true) (h6 : vppnMatches f va = true) : tlbLookup s va = .fault .tlbMultipleHit := by
  unfold tlbLookup
  rw [any_illegalSize_false s hl]
  have a := (mem_tlbMatches s.tlb (asidAsid s.csr) va e m).2 ⟨h1, h3, h4⟩
  have b := (mem_tlbMatches s.tlb (asidAsid s.csr) va f n).2 ⟨h2, h5, h6⟩
  cases hx : tlbMatches s.tlb (asidAsid s.csr) va with
  | nil => rw [hx] at a; simp at a
  | cons p r =>
    cases r with
    | nil => rw [hx] at a b; simp at a b; rw [← a] at b; simp at b; omega
    | cons q r => simp

/-- The width of TLBIDX.Index is at most 16 for a TLB of at most 2^16 entries. -/
theorem tlbIdxBits_le (s : State) (h : s.tlb.length ≤ 2^16) : tlbIdxBits s ≤ 16 := by
  unfold tlbIdxBits
  split
  · omega
  · have : Nat.log2 (s.tlb.length - 1) < 16 := by
      rw [Nat.log2_lt (by omega)]; omega
    omega

/-- Every index of an entry fits TLBIDX.Index. -/
theorem lt_two_pow_tlbIdxBits (s : State) {n : Nat} (h : n < s.tlb.length) : n < 2 ^ tlbIdxBits s := by
  unfold tlbIdxBits
  split
  · simp; omega
  · have : s.tlb.length - 1 < 2 ^ (Nat.log2 (s.tlb.length - 1) + 1) := Nat.lt_log2_self
    omega

/-- Every bit of a packed TLBELO register (R42, R361). -/
theorem getLsbD_packPage (cfg : Config.Params) (g : Bool) (p : TlbPage) (k : Nat) (hk : k < 32): (packPage cfg g p).getLsbD k =
   (if k = 0 then p.v else if k = 1 then p.d else if k < 4 then p.plv.getLsbD (k-2) else if k < 6 then p.mat.getLsbD (k-4) else if k = 6 then g else if k = 7 then false else (p.ppn.getLsbD (k-8) && (lowMask (cfg.palen - 4)).getLsbD k)) := by
  unfold packPage flag
  simp only [BitVec.getLsbD_or, BitVec.getLsbD_and, getLsbD_place, hk, decide_true, Bool.true_and]
  have of : ∀ (b : Bool) i, (BitVec.ofBool b).getLsbD i = (decide (i = 0) && b) := by intro b i; rw [BitVec.getLsbD_ofBool]
  simp only [of]
  have z : ∀ {n : Nat} (x : BitVec n) i, n ≤ i → x.getLsbD i = false := fun x i h => BitVec.getLsbD_of_ge _ _ h
  rcases (show k = 0 ∨ k = 1 ∨ (2 ≤ k ∧ k < 4) ∨ (4 ≤ k ∧ k < 6) ∨ k = 6 ∨ k = 7 ∨ 8 ≤ k by omega) with h|h|h|h|h|h|h
  · subst h; simp
  · subst h; simp
  · rcases (show k = 2 ∨ k = 3 by omega) with h|h <;> subst h <;> simp
  · rcases (show k = 4 ∨ k = 5 by omega) with h|h <;> subst h <;> simp
  · subst h; simp
  · subst h; simp
  · simp only [show ¬ k = 0 by omega, show ¬ k = 1 by omega, show ¬ k < 4 by omega, show ¬ k < 6 by omega, show ¬ k = 6 by omega, show ¬ k = 7 by omega, if_false, show ¬ (k - 0 = 0) by omega, show ¬ (k-1=0) by omega, show ¬ (k - 6 = 0) by omega, decide_false, Bool.false_and, Bool.and_false, Bool.false_or, Bool.or_false, show ¬ k < 8 by omega, Bool.not_false, Bool.true_and, z p.plv (k-2) (by omega), z p.mat (k-4) (by omega)]

end Sys2Proof.Machine
end

