-- ==== Sys2Proof/Tests/Slice0.lean ====
section
/-! SUPPORT. Tests. Expected values are the specification's: 95_test_vectors.md (a row is named in the theorem's comment),
30_encoding.md R175 and 46_float.md R331. The witnesses at the end show that the hypotheses of the statements can be
met. -/

set_option Elab.async false

namespace Sys2Proof.Tests

open Sys2Proof Sys2Proof.Machine

/-! ## Helpers -/

/-- The start state S0 of 95_test_vectors.md: the state after reset, interrupts taken at once. -/
def s0 : State := { State.reset with cfg := { Config.defaults with intLatency := .immediate } }

/-- The state with these registers. -/
def regs (l : List (Reg × Word)) (s : State) : State := l.foldl (fun t p => writeReg t p.1 p.2) s

/-- The state with these bytes from an address. -/
def bytes (a : Nat) (l : List Byte) (s : State) : State :=
  { s with mem := (l.zipIdx).foldl (fun m p => writeByte m (a + p.2) p.1) s.mem }

/-- The state with this CRMD. -/
def mode (w : Word) (s : State) : State := { s with csr := { s.csr with crmd := w } }

/-- Entry 3 of group H. -/
def entry3 : TlbEntry :=
  { e := true, asid := 5, g := false, ps := 12, vppn := 0x20001, page0 := ⟨true, true, 1, 0, 0x80⟩,
    page1 := ⟨true, false, 0, 3, 0x81⟩ }

/-- Entry 4 of group H. -/
def entry4 : TlbEntry :=
  { e := true, asid := 0, g := true, ps := 22, vppn := 0x28000, page0 := ⟨true, true, 1, 0, 0x123FF⟩,
    page1 := ⟨false, false, 0, 0, 0⟩ }

/-- The state with the two entries of group H. -/
def entries (s : State) : State := { s with tlb := (s.tlb.set 3 entry3).set 4 entry4 }

/-- The common start of group H: mapped mode, one window, two entries, ASID 5. -/
def mapped : State :=
  entries { s0 with csr := { s0.csr with crmd := 0x10, eentry := 0x1C008000, tlbrentry := 0x1C009000, dmw0 := 9,
                                         asid := 5 } }

/-- What is seen of the next state, where there is one. -/
def after {α : Type} (o : Out) (f : State → α) : Option α :=
  match o with
  | .next t => some (f t)
  | .fault _ => none
  | .refused _ => none

/-- One step with this word as the next instruction: what is seen of the next state. -/
def run {α : Type} (w : Nat) (s : State) (f : State → α) : Option α := after (step (s.withFetchWord 32 w)) f

/-- The step or instruction goes on. -/
def goesOn (o : Out) : Bool := (after o fun _ => ()).isSome

/-- A register and the PC. -/
def see (r : Reg) (t : State) : Word × Word := (readReg t r, t.pc)

/-- The PC, ESTAT, ERA and BADV: what an exception entry shows. -/
def trap (t : State) : Word × Word × Word × Word := (t.pc, t.csr.estat, t.csr.era, t.csr.badv)

/-! ## Well-formedness: the one check refuses its ill-formed terms -/

theorem test_wf_rdcntvlW : (Instr.rdcntvlW 0).wellFormed = false ∧ (Instr.rdcntvlW 1).wellFormed = true := by decide
theorem test_wf_csrxchg : (Instr.csrxchg 4 0 0).wellFormed = false ∧ (Instr.csrxchg 4 1 0).wellFormed = false ∧
    (Instr.csrxchg 4 2 0).wellFormed = true := by decide

/-! ## Decoding: one word for every constructor -/

/-- Whether every word decodes to its instruction and is its encoding. -/
def decodes (l : List (Word × Instr)) : Bool := l.all fun p => decode p.1 == .ok p.2 && encode p.2 == p.1

/-- 95_test_vectors.md Part 4. -/
theorem test_decode_part4_1 : decodes
    [(0x000060A0, .rdcntid 5), (0x00006004, .rdcntvlW 4), (0x00006404, .rdcntvhW 4),
     (0x001018A4, .addW 4 5 6), (0x001177DF, .subW 0x1F 0x1E 0x1D), (0x00120C41, .slt 1 2 3),
     (0x001298A4, .sltu 4 5 6), (0x001418A4, .norR 4 5 6), (0x001498A4, .andR 4 5 6),
     (0x001500A4, .orR 4 5 0), (0x001598A4, .xorR 4 5 6), (0x001718A4, .sllW 4 5 6)] = true := by decide

/-- 95_test_vectors.md Part 4. -/
theorem test_decode_part4_2 : decodes
    [(0x001798A4, .srlW 4 5 6), (0x001818A4, .sraW 4 5 6), (0x001C18A4, .mulW 4 5 6),
     (0x001C98A4, .mulhW 4 5 6), (0x001D18A4, .mulhWu 4 5 6), (0x002018A4, .divW 4 5 6),
     (0x002098A4, .modW 4 5 6), (0x002118A4, .divWu 4 5 6), (0x002198A4, .modWu 4 5 6),
     (0x002A7FFF, .breakI 0x7FFF), (0x002B0000, .syscallI 0), (0x004084A4, .slliW 4 5 1)] = true := by decide

/-- 95_test_vectors.md Part 4. -/
theorem test_decode_part4_3 : decodes
    [(0x0044FCA4, .srliW 4 5 0x1F), (0x0048C0A4, .sraiW 4 5 0x10), (0x023FFCA4, .slti 4 5 0xFFF),
     (0x025FFCA4, .sltui 4 5 0x7FF), (0x02BFC063, .addiW 3 3 0xFF0), (0x037FFCA4, .andi 4 5 0xFFF),
     (0x03A000A4, .ori 4 5 0x800), (0x03C004A4, .xori 4 5 1), (0x04008004, .csrrd 4 0x20),
     (0x0400C024, .csrwr 4 0x30), (0x040604A4, .csrxchg 4 5 0x181), (0x062000B1, .cacop 0x11 5 0x800)] = true := by decide

/-- 95_test_vectors.md Part 4. -/
theorem test_decode_part4_4 : decodes
    [(0x06482800, .tlbsrch), (0x06482C00, .tlbrd), (0x06483000, .tlbwr), (0x06483400, .tlbfill),
     (0x06483800, .ertn), (0x0648FFFF, .idle 0x7FFF), (0x064998A6, .invtlb 6 5 6),
     (0x15000004, .lu12iW 4 0x80000), (0x1C000024, .pcaddu12i 4 1), (0x208000A4, .llW 4 5 0x2000),
     (0x217FFCA4, .scW 4 5 0x1FFF), (0x283FFCA4, .ldB 4 5 0xFFF)] = true := by decide

/-- 95_test_vectors.md Part 4. -/
theorem test_decode_part4_5 : decodes
    [(0x284008A4, .ldH 4 5 2), (0x289FF0A4, .ldW 4 5 0x7FC), (0x290000A4, .stB 4 5 0),
     (0x297FF8A4, .stH 4 5 0xFFE), (0x29803061, .stW 1 3 0xC), (0x2A000CA4, .ldBu 4 5 3),
     (0x2A4018A4, .ldHu 4 5 6), (0x2AC100A8, .preld 8 5 0x40), (0x38720000, .dbar 0), (0x38728000, .ibar 0),
     (0x4FFFFCA1, .jirl 1 5 0xFFFF), (0x53FFFDFF, .b 0x1FFFFFF)] = true := by decide

/-- 95_test_vectors.md Part 4. -/
theorem test_decode_part4_6 : decodes
    [(0x54000200, .bl 0x2000000), (0x580004A6, .beq 5 6 1), (0x5FFFFCA6, .bne 5 6 0xFFFF),
     (0x61FFFCA6, .blt 5 6 0x7FFF), (0x660000A6, .bge 5 6 0x8000), (0x680008A6, .bltu 5 6 2),
     (0x6C000CA6, .bgeu 5 6 3)] = true := by decide

/-- 46_float.md R331: match value and fields. -/
theorem test_decode_float_1 : decodes
    [(0x01008C41, .faddS 1 2 3), (0x01010C41, .faddD 1 2 3), (0x01028C41, .fsubS 1 2 3),
     (0x01030C41, .fsubD 1 2 3), (0x01048C41, .fmulS 1 2 3), (0x01050C41, .fmulD 1 2 3),
     (0x01068C41, .fdivS 1 2 3), (0x01070C41, .fdivD 1 2 3), (0x01088C41, .fmaxS 1 2 3),
     (0x01090C41, .fmaxD 1 2 3), (0x010A8C41, .fminS 1 2 3), (0x010B0C41, .fminD 1 2 3),
     (0x010C8C41, .fmaxaS 1 2 3)] = true := by decide

/-- 46_float.md R331: match value and fields. -/
theorem test_decode_float_2 : decodes
    [(0x010D0C41, .fmaxaD 1 2 3), (0x010E8C41, .fminaS 1 2 3), (0x010F0C41, .fminaD 1 2 3),
     (0x01128C41, .fcopysignS 1 2 3), (0x01130C41, .fcopysignD 1 2 3), (0x01140441, .fabsS 1 2),
     (0x01140841, .fabsD 1 2), (0x01141441, .fnegS 1 2), (0x01141841, .fnegD 1 2), (0x01143441, .fclassS 1 2),
     (0x01143841, .fclassD 1 2), (0x01144441, .fsqrtS 1 2), (0x01144841, .fsqrtD 1 2)] = true := by decide

/-- 46_float.md R331: match value and fields. -/
theorem test_decode_float_3 : decodes
    [(0x01145441, .frecipS 1 2), (0x01145841, .frecipD 1 2), (0x01146441, .frsqrtS 1 2),
     (0x01146841, .frsqrtD 1 2), (0x01149441, .fmovS 1 2), (0x01149841, .fmovD 1 2),
     (0x0114A4C1, .movgr2frW 1 6), (0x0114ACC1, .movgr2frhW 1 6), (0x0114B445, .movfr2grS 5 2),
     (0x0114BC45, .movfrh2grS 5 2), (0x0114C0C0, .movgr2fcsr 0 6), (0x0114C805, .movfcsr2gr 5 0),
     (0x0114D047, .movfr2cf 7 2)] = true := by decide

/-- 46_float.md R331: match value and fields. -/
theorem test_decode_float_4 : decodes
    [(0x0114D461, .movcf2fr 1 3), (0x0114D8C7, .movgr2cf 7 6), (0x0114DC65, .movcf2gr 5 3),
     (0x01191841, .fcvtSD 1 2), (0x01192441, .fcvtDS 1 2), (0x011A0441, .ftintrmWS 1 2),
     (0x011A0841, .ftintrmWD 1 2), (0x011A4441, .ftintrpWS 1 2), (0x011A4841, .ftintrpWD 1 2),
     (0x011A8441, .ftintrzWS 1 2), (0x011A8841, .ftintrzWD 1 2), (0x011AC441, .ftintrneWS 1 2),
     (0x011AC841, .ftintrneWD 1 2)] = true := by decide

/-- 46_float.md R331: match value and fields. -/
theorem test_decode_float_5 : decodes
    [(0x011B0441, .ftintWS 1 2), (0x011B0841, .ftintWD 1 2), (0x011D1041, .ffintSW 1 2),
     (0x011D2041, .ffintDW 1 2), (0x08120C41, .fmaddS 1 2 3 4), (0x08220C41, .fmaddD 1 2 3 4),
     (0x08520C41, .fmsubS 1 2 3 4), (0x08620C41, .fmsubD 1 2 3 4), (0x08920C41, .fnmaddS 1 2 3 4),
     (0x08A20C41, .fnmaddD 1 2 3 4), (0x08D20C41, .fnmsubS 1 2 3 4), (0x08E20C41, .fnmsubD 1 2 3 4),
     (0x0C140C47, .fcmpCondS 8 7 2 3)] = true := by decide

/-- 46_float.md R331: match value and fields. -/
theorem test_decode_float_6 : decodes
    [(0x0C240C47, .fcmpCondD 8 7 2 3), (0x0D028C41, .fsel 1 2 3 5), (0x48000C7F, .bceqz 3 0x1F0003),
     (0x48000D7F, .bcnez 3 0x1F0003), (0x2B3FF0C1, .fldS 1 6 0xFFC), (0x2B7FF0C1, .fstS 1 6 0xFFC),
     (0x2BBFF0C1, .fldD 1 6 0xFFC), (0x2BFFF0C1, .fstD 1 6 0xFFC)] = true := by decide

/-- 95_test_vectors.md Part 4: words that match no row (R177). -/
theorem test_decode_undefined : [(0x00000000 : Word), 0xFFFFFFFF, 0x00108000, 0x00160000, 0x00410000, 0x00450000, 0x02C00000, 0x03000000, 0x16000004, 0x1E000004, 0x22000000, 0x40000000, 0x00006C04, 0x00005000, 0x06484000, 0x06483801, 0x05000000, 0x38730000, 0x00400CA4].all
    (fun w => decode w == .error .undefinedWord) = true := by decide

/-- 95_test_vectors.md Part 4: the non-canonical counter reads (R180), and `rdcntid r0`. -/
theorem test_decode_counter : decode 0x000064A4 = .error .nonCanonicalCounter ∧
    decode 0x000060A6 = .error .nonCanonicalCounter ∧ decode 0x00006000 = .ok (.rdcntid 0) := by decide

/-! ## One step each: 95_test_vectors.md, Part 2 -/

/-- VA1: add.w r4, r5, r6. -/
theorem test_VA1 : run 0x001018A4 (regs [(5, 0x7FFFFFFF), (6, 0x00000001)] s0)
    (see 4) = some (0x80000000, 0x1C000004) := by decide
/-- VA2: add.w r0, r5, r6. -/
theorem test_VA2 : run 0x001018A0 (regs [(5, 0x00000003), (6, 0x00000004)] s0)
    (·.pc) = some 0x1C000004 := by decide
/-- VA3: sub.w r4, r0, r6. -/
theorem test_VA3 : run 0x00111804 (regs [(6, 0x80000000)] s0)
    (see 4) = some (0x80000000, 0x1C000004) := by decide
/-- VA4: addi.w r4, r5, -2048. -/
theorem test_VA4 : run 0x02A000A4 (regs [(5, 0x00000801)] s0)
    (see 4) = some (0x00000001, 0x1C000004) := by decide
/-- VA5: addi.w r4, r5, 2047. -/
theorem test_VA5 : run 0x029FFCA4 (regs [(5, 0xFFFFFFFF)] s0)
    (see 4) = some (0x000007FE, 0x1C000004) := by decide
/-- VA6: lu12i.w r4, -1. -/
theorem test_VA6 : run 0x15FFFFE4 (regs [(4, 0x00000123)] s0)
    (see 4) = some (0xFFFFF000, 0x1C000004) := by decide
/-- VA7: lu12i.w r4, 0x7FFFF. -/
theorem test_VA7 : run 0x14FFFFE4 s0
    (see 4) = some (0x7FFFF000, 0x1C000004) := by decide
/-- VA8: pcaddu12i r4, -1. -/
theorem test_VA8 : run 0x1DFFFFE4 { s0 with pc := 0x00000FFC }
    (see 4) = some (0xFFFFFFFC, 0x00001000) := by decide
/-- VM8: pcaddu12i r4, 0x7FFFF. -/
theorem test_VM8 : run 0x1CFFFFE4 { s0 with pc := 0x1C000010 }
    (see 4) = some (0x9BFFF010, 0x1C000014) := by decide
/-- VA9: slt r4, r5, r6. -/
theorem test_VA9 : run 0x001218A4 (regs [(5, 0x80000000), (6, 0x7FFFFFFF)] s0)
    (see 4) = some (0x00000001, 0x1C000004) := by decide
/-- VA10: sltu r4, r5, r6. -/
theorem test_VA10 : run 0x001298A4 (regs [(5, 0x80000000), (6, 0x7FFFFFFF), (4, 0x00000009)] s0)
    (see 4) = some (0x00000000, 0x1C000004) := by decide
/-- VA11: slti r4, r5, -2048. -/
theorem test_VA11 : run 0x022000A4 (regs [(5, 0xFFFFF7FF)] s0)
    (see 4) = some (0x00000001, 0x1C000004) := by decide
/-- VA12: sltui r4, r5, -2048. -/
theorem test_VA12 : run 0x026000A4 (regs [(5, 0xFFFFF7FF)] s0)
    (see 4) = some (0x00000001, 0x1C000004) := by decide
/-- VA13: sltui r4, r5, 1. -/
theorem test_VA13 : run 0x024004A4 (regs [(5, 0x00000000)] s0)
    (see 4) = some (0x00000001, 0x1C000004) := by decide
/-- VA14: nor r4, r5, r0. -/
theorem test_VA14 : run 0x001400A4 (regs [(5, 0x0000FFFF)] s0)
    (see 4) = some (0xFFFF0000, 0x1C000004) := by decide
/-- VA15: and r4, r5, r6. -/
theorem test_VA15 : run 0x001498A4 (regs [(5, 0xFFFF0000), (6, 0x0FF00FF0)] s0)
    (see 4) = some (0x0FF00000, 0x1C000004) := by decide
/-- VA16: xor r4, r5, r5. -/
theorem test_VA16 : run 0x001594A4 (regs [(5, 0xDEADBEEF), (4, 0x00000001)] s0)
    (see 4) = some (0x00000000, 0x1C000004) := by decide
/-- VA17: andi r4, r5, 0x800. -/
theorem test_VA17 : run 0x036000A4 (regs [(5, 0xFFFFFFFF)] s0)
    (see 4) = some (0x00000800, 0x1C000004) := by decide
/-- VA18: ori r4, r0, 0xFFF. -/
theorem test_VA18 : run 0x03BFFC04 s0
    (see 4) = some (0x00000FFF, 0x1C000004) := by decide
/-- VA19: xori r4, r5, 0xFFF. -/
theorem test_VA19 : run 0x03FFFCA4 (regs [(5, 0xFFFFFFFF)] s0)
    (see 4) = some (0xFFFFF000, 0x1C000004) := by decide
/-- VA20: andi r0, r0, 0 (NOP). -/
theorem test_VA20 : run 0x03400000 s0
    (·.pc) = some 0x1C000004 := by decide
/-- VA22: mul.w r4, r5, r6. -/
theorem test_VA22 : run 0x001C18A4 (regs [(5, 0x12345678), (6, 0x9ABCDEF0)] s0)
    (see 4) = some (0x242D2080, 0x1C000004) := by decide
/-- VA23: mulh.w r4, r5, r6. -/
theorem test_VA23 : run 0x001C98A4 (regs [(5, 0x12345678), (6, 0x9ABCDEF0)] s0)
    (see 4) = some (0xF8CC93D6, 0x1C000004) := by decide
/-- VA25: mulh.w r4, r5, r6. -/
theorem test_VA25 : run 0x001C98A4 (regs [(5, 0xFFFFFFFF), (6, 0x00000001)] s0)
    (see 4) = some (0xFFFFFFFF, 0x1C000004) := by decide
/-- VA24: mulh.wu r4, r5, r6. -/
theorem test_VA24 : run 0x001D18A4 (regs [(5, 0x12345678), (6, 0x9ABCDEF0)] s0)
    (see 4) = some (0x0B00EA4E, 0x1C000004) := by decide
/-- VA26: div.w r4, r5, r6. -/
theorem test_VA26 : run 0x002018A4 (regs [(5, 0x00000007), (6, 0xFFFFFFFE)] s0)
    (see 4) = some (0xFFFFFFFD, 0x1C000004) := by decide
/-- VA28: div.w r4, r5, r6. -/
theorem test_VA28 : run 0x002018A4 (regs [(5, 0x80000000), (6, 0xFFFFFFFF)] s0)
    (see 4) = some (0x80000000, 0x1C000004) := by decide
/-- VA27: mod.w r4, r5, r6. -/
theorem test_VA27 : run 0x002098A4 (regs [(5, 0x00000007), (6, 0xFFFFFFFE)] s0)
    (see 4) = some (0x00000001, 0x1C000004) := by decide
/-- VA29: mod.w r4, r5, r6. -/
theorem test_VA29 : run 0x002098A4 (regs [(5, 0x80000000), (6, 0xFFFFFFFF), (4, 0x00000005)] s0)
    (see 4) = some (0x00000000, 0x1C000004) := by decide
/-- VA30: div.wu r4, r5, r6. -/
theorem test_VA30 : run 0x002118A4 (regs [(5, 0x80000000), (6, 0xFFFFFFFF), (4, 0x00000005)] s0)
    (see 4) = some (0x00000000, 0x1C000004) := by decide
/-- VA31: mod.wu r4, r5, r6. -/
theorem test_VA31 : run 0x002198A4 (regs [(5, 0x80000000), (6, 0xFFFFFFFF)] s0)
    (see 4) = some (0x80000000, 0x1C000004) := by decide
/-- VB1: sll.w r4, r5, r6. -/
theorem test_VB1 : run 0x001718A4 (regs [(5, 0xFFFFFFFF), (6, 0xFFFFFFE4)] s0)
    (see 4) = some (0xFFFFFFF0, 0x1C000004) := by decide
/-- VB2: srl.w r4, r5, r6. -/
theorem test_VB2 : run 0x001798A4 (regs [(5, 0xFFFFFFFF), (6, 0x00000020)] s0)
    (see 4) = some (0xFFFFFFFF, 0x1C000004) := by decide
/-- VB3: sra.w r4, r5, r6. -/
theorem test_VB3 : run 0x001818A4 (regs [(5, 0x80000000), (6, 0x0000001F)] s0)
    (see 4) = some (0xFFFFFFFF, 0x1C000004) := by decide
/-- VB4: sra.w r4, r5, r6. -/
theorem test_VB4 : run 0x001818A4 (regs [(5, 0x7FFFFFFF), (6, 0x0000001F), (4, 0x00000001)] s0)
    (see 4) = some (0x00000000, 0x1C000004) := by decide
/-- VB5: slli.w r4, r5, 31. -/
theorem test_VB5 : run 0x0040FCA4 (regs [(5, 0x00000003)] s0)
    (see 4) = some (0x80000000, 0x1C000004) := by decide
/-- VB6: srli.w r4, r5, 31. -/
theorem test_VB6 : run 0x0044FCA4 (regs [(5, 0x80000000)] s0)
    (see 4) = some (0x00000001, 0x1C000004) := by decide
/-- VB7: srai.w r4, r5, 1. -/
theorem test_VB7 : run 0x004884A4 (regs [(5, 0xFFFFFFFF)] s0)
    (see 4) = some (0xFFFFFFFF, 0x1C000004) := by decide
/-- VC1: beq r0, r0, -4. -/
theorem test_VC1 : run 0x5BFFFC00 { s0 with pc := 0x1C000100 }
    (·.pc) = some 0x1C0000FC := by decide
/-- VC2: bne r5, r5, 8. -/
theorem test_VC2 : run 0x5C0008A5 (regs [(5, 0x00000001)] { s0 with pc := 0x1C000100 })
    (·.pc) = some 0x1C000104 := by decide
/-- VC3: blt r5, r6, 0x1FFFC. -/
theorem test_VC3 : run 0x61FFFCA6 (regs [(5, 0x80000000), (6, 0x7FFFFFFF)] { s0 with pc := 0x1C000100 })
    (·.pc) = some 0x1C0200FC := by decide
/-- VC4: bge r5, r6, -0x20000. -/
theorem test_VC4 : run 0x660000A6 (regs [(5, 0x00000005), (6, 0x00000005)] { s0 with pc := 0x1C020100 })
    (·.pc) = some 0x1C000100 := by decide
/-- VC5: bltu r5, r6, 8. -/
theorem test_VC5 : run 0x680008A6 (regs [(5, 0x7FFFFFFF), (6, 0x80000000)] { s0 with pc := 0x1C000100 })
    (·.pc) = some 0x1C000108 := by decide
/-- VC6: bgeu r5, r0, 8. -/
theorem test_VC6 : run 0x6C0008A0 (regs [(5, 0x00000000)] { s0 with pc := 0x1C000100 })
    (·.pc) = some 0x1C000108 := by decide
/-- VC7: b -4. -/
theorem test_VC7 : run 0x53FFFFFF { s0 with pc := 0x00000000 }
    (·.pc) = some 0xFFFFFFFC := by decide
/-- VC8: bl 8. -/
theorem test_VC8 : run 0x54000800 (regs [(1, 0x00000055)] { s0 with pc := 0xFFFFFFFC })
    (see 1) = some (0x00000000, 0x00000004) := by decide
/-- VC10: jirl r5, r5, 4. -/
theorem test_VC10 : run 0x4C0004A5 (regs [(5, 0x1C001000)] { s0 with pc := 0x1C000020 })
    (see 5) = some (0x1C000024, 0x1C001004) := by decide
/-- VC11: jirl r1, r5, 0. -/
theorem test_VC11 : run 0x4C0000A1 (regs [(5, 0x1C001002)] { s0 with pc := 0x1C000020 })
    (see 1) = some (0x1C000024, 0x1C001002) := by decide
/-- VD1: ld.b r4, r5, 3. -/
theorem test_VD1 : run 0x28000CA4 (bytes 0x1000 [0x01, 0x7F, 0xFF, 0x80] (regs [(5, 0x00001000)] s0))
    (see 4) = some (0xFFFFFF80, 0x1C000004) := by decide
/-- VD2: ld.bu r4, r5, 3. -/
theorem test_VD2 : run 0x2A000CA4 (bytes 0x1000 [0x01, 0x7F, 0xFF, 0x80] (regs [(5, 0x00001000)] s0))
    (see 4) = some (0x00000080, 0x1C000004) := by decide
/-- VD3: ld.h r4, r5, 2. -/
theorem test_VD3 : run 0x284008A4 (bytes 0x1000 [0x01, 0x7F, 0xFF, 0x80] (regs [(5, 0x00001000)] s0))
    (see 4) = some (0xFFFF80FF, 0x1C000004) := by decide
/-- VD7: ld.h r4, r5, 1. -/
theorem test_VD7 : run 0x284004A4 (regs [(5, 0x00001000), (4, 0x00000055)] { s0 with csr := { s0.csr with eentry := 0x1C008000 } })
    trap = some (0x1C008000, 0x00090000, 0x1C000000, 0x00001001) := by decide
/-- VD4: ld.hu r4, r5, 0. -/
theorem test_VD4 : run 0x2A4000A4 (bytes 0x1000 [0x01, 0x7F, 0xFF, 0x80] (regs [(5, 0x00001000)] s0))
    (see 4) = some (0x00007F01, 0x1C000004) := by decide
/-- VD5: ld.w r4, r5, 0. -/
theorem test_VD5 : run 0x288000A4 (bytes 0x1000 [0x01, 0x7F, 0xFF, 0x80] (regs [(5, 0x00001000)] s0))
    (see 4) = some (0x80FF7F01, 0x1C000004) := by decide
/-- VD10: st.b r4, r5, 1. -/
theorem test_VD10 : run 0x290004A4 (bytes 0x1000 [0xAA, 0xAA, 0xAA, 0xAA] (regs [(4, 0x12345678), (5, 0x00001000)] s0))
    (fun t => (t.pc, readByte t.mem 0x1001)) = some (0x1C000004, 0x78) := by decide
/-- VD11: st.h r4, r5, 2. -/
theorem test_VD11 : run 0x294008A4 (bytes 0x1000 [0xAA, 0xAA, 0xAA, 0xAA] (regs [(4, 0x12345678), (5, 0x00001000)] s0))
    (fun t => (t.pc, readByte t.mem 0x1002, readByte t.mem 0x1003)) = some (0x1C000004, 0x78, 0x56) := by decide
/-- VD12: st.w r4, r5, 0. -/
theorem test_VD12 : run 0x298000A4 (bytes 0x1000 [0xAA, 0xAA, 0xAA, 0xAA] (regs [(4, 0x12345678), (5, 0x00001000)] s0))
    (fun t => (t.pc, readByte t.mem 0x1000, readByte t.mem 0x1001, readByte t.mem 0x1002, readByte t.mem 0x1003)) = some (0x1C000004, 0x78, 0x56, 0x34, 0x12) := by decide
/-- VH3: st.w r4, r5, 0. -/
theorem test_VH3 : run 0x298000A4 (regs [(5, 0x40003000), (4, 0x00000001)] mapped)
    trap = some (0x1C008000, 0x00040000, 0x1C000000, 0x40003000) := by decide
/-- VH5: ld.w r4, r5, 0. -/
theorem test_VH5 : run 0x288000A4 (regs [(5, 0x40004000)] mapped)
    trap = some (0x1C009000, 0x003F0000, 0x1C000000, 0x40004000) := by decide
/-- VD15: preld 0, r5, 1. -/
theorem test_VD15 : run 0x2AC004A0 (regs [(5, 0x00001000)] s0)
    (·.pc) = some 0x1C000004 := by decide
/-- VE1: ll.w r4, r5, 4. -/
theorem test_VE1 : run 0x200004A4 (bytes 0x1004 [0x07, 0x00, 0x00, 0x00] (regs [(5, 0x00001000)] { s0 with csr := { s0.csr with crmd := 0x00000088 } }))
    (fun t => (see 4 t, t.llbit, t.lladdr)) = some ((0x00000007, 0x1C000004), true, 0x1004) := by decide
/-- VE6: ll.w r4, r5, 0. -/
theorem test_VE6 : run 0x200000A4 (regs [(5, 0x00001002), (4, 0x00000055)] { s0 with csr := { s0.csr with eentry := 0x1C008000, crmd := 0x00000088 } })
    trap = some (0x1C008000, 0x00090000, 0x1C000000, 0x00001002) := by decide
/-- VE2: sc.w r6, r5, 4. -/
theorem test_VE2 : run 0x210004A6 (bytes 0x1004 [0x07, 0x00, 0x00, 0x00] (regs [(5, 0x00001000), (6, 0x00000008)] { s0 with llbit := true, csr := { s0.csr with crmd := 0x00000088 } }))
    (fun t => (see 6 t, readByte t.mem 0x1004)) = some ((0x00000001, 0x1C000004), 0x08) := by decide
/-- VE5: sc.w r6, r5, 0. -/
theorem test_VE5 : run 0x210000A6 (regs [(5, 0x00001002), (6, 0x00000008)] { s0 with llbit := true, csr := { s0.csr with eentry := 0x1C008000, crmd := 0x00000088 } })
    trap = some (0x1C008000, 0x00090000, 0x1C000000, 0x00001002) := by decide
/-- VE10: ertn. -/
theorem test_VE10 : run 0x06483800 { s0 with llbit := true, csr := { s0.csr with llbctl := 0x00000004, era := 0x1C000040, prmd := 0x00000000 } }
    (fun t => (t.pc, t.csr.llbctl)) = some (0x1C000040, 0x00000000) := by decide
/-- VI28: ertn. -/
theorem test_VI28 : run 0x06483800 (entries { s0 with csr := { s0.csr with eentry := 0x1C008000, asid := 5, prmd := 0x00000004, era := 0x40002010, estat := 0x003F0000, crmd := 0x00000008 } })
    (fun t => (t.pc, t.csr.crmd)) = some (0x40002010, 0x00000014) := by decide
/-- VF1: syscall 0x11. -/
theorem test_VF1 : run 0x002B0011 { s0 with pc := 0x00010040, csr := { s0.csr with eentry := 0x1C008000, crmd := 0x00000017, dmw0 := 0x00000009 } }
    trap = some (0x1C008000, 0x000B0000, 0x00010040, 0) := by decide
/-- VF2: break 5. -/
theorem test_VF2 : run 0x002A0005 { s0 with csr := { s0.csr with eentry := 0x1C008000, crmd := 0x0000000C } }
    trap = some (0x1C008000, 0x000C0000, 0x1C000000, 0) := by decide
/-- VF3: rdcntid r5. -/
theorem test_VF3 : run 0x000060A0 { s0 with csr := { s0.csr with tid := 0x00000007 } }
    (see 5) = some (0x00000007, 0x1C000004) := by decide
/-- VF10: dbar 0. -/
theorem test_VF10 : run 0x38720000 s0
    (·.pc) = some 0x1C000004 := by decide
/-- VF11: ibar 0. -/
theorem test_VF11 : run 0x38728000 s0
    (·.pc) = some 0x1C000004 := by decide
/-- VG1: csrrd r4, 0x0. -/
theorem test_VG1 : run 0x04000004 s0
    (see 4) = some (0x00000008, 0x1C000004) := by decide
/-- VG8: csrrd r4, 0x5. -/
theorem test_VG8 : run 0x04001404 { s0 with hwi := 0xff, ipi := false, timer := { s0.timer with pending := true }, csr := { s0.csr with estat := 0x000B0003 } }
    (see 4) = some (0x000B0BFF, 0x1C000004) := by decide
/-- VG5: csrwr r4, 0x5. -/
theorem test_VG5 : run 0x04001424 (regs [(4, 0xFFFFFFFF)] { s0 with hwi := 0x1, ipi := true })
    (fun t => (see 4 t, csrValue t .estat)) = some ((0x00001004, 0x1C000004), 0x00001007) := by decide
/-- VG12: csrwr r4, 0x180. -/
theorem test_VG12 : run 0x04060024 (regs [(4, 0xFFFFFFFF)] s0)
    (fun t => (see 4 t, t.csr.dmw0)) = some ((0x00000000, 0x1C000004), 0xEE000039) := by decide
/-- VG3: csrxchg r4, r5, 0x0. -/
theorem test_VG3 : run 0x040000A4 (regs [(4, 0xFFFFFFFF), (5, 0x00000004)] s0)
    (fun t => (see 4 t, t.csr.crmd)) = some ((0x00000008, 0x1C000004), 0x0000000C) := by decide
/-- VG11: csrxchg r4, r5, 0x18. -/
theorem test_VG11 : run 0x040060A4 (regs [(4, 0xFFFFFFFF), (5, 0xFFFFFFFF)] { s0 with csr := { s0.csr with asid := 5 } })
    (fun t => (see 4 t, csrValue t .asid)) = some ((0x000A0005, 0x1C000004), 0x000A03FF) := by decide
/-- VI1: tlbsrch. -/
theorem test_VI1 : run 0x06482800 (entries { s0 with csr := { s0.csr with eentry := 0x1C008000, asid := 5, tlbehi := 0x40002000, tlbidx := 0x0C000007 } })
    (fun t => (t.pc, t.csr.tlbidx)) = some (0x1C000004, 0x0C000003) := by decide
/-- VI2: tlbsrch. -/
theorem test_VI2 : run 0x06482800 (entries { s0 with csr := { s0.csr with eentry := 0x1C008000, asid := 5, tlbehi := 0x40004000, tlbidx := 0x0C000007 } })
    (fun t => (t.pc, t.csr.tlbidx)) = some (0x1C000004, 0x8C000007) := by decide
/-- VI4: tlbrd. -/
theorem test_VI4 : run 0x06482C00 (entries { s0 with csr := { s0.csr with eentry := 0x1C008000, asid := 9, tlbidx := 0x80000003 } })
    (fun t => (t.pc, t.csr.tlbidx, t.csr.tlbehi, t.csr.tlbelo0, t.csr.tlbelo1)) = some (0x1C000004, 0x0C000003, 0x40002000, 0x00008013, 0x0000810D) := by decide
/-- VI6: tlbrd. -/
theorem test_VI6 : run 0x06482C00 (entries { s0 with csr := { s0.csr with eentry := 0x1C008000, asid := 5, tlbidx := 0x0C000001, tlbehi := 0x12346000, tlbelo0 := 0x00000055, tlbelo1 := 0x00000066 } })
    (fun t => (t.pc, t.csr.tlbidx, t.csr.tlbehi, t.csr.tlbelo0, t.csr.tlbelo1)) = some (0x1C000004, 0x80000001, 0x00000000, 0x00000000, 0x00000000) := by decide
/-- VI7: tlbwr. -/
theorem test_VI7 : run 0x06483000 (entries { s0 with csr := { s0.csr with eentry := 0x1C008000, asid := 5, tlbidx := 0x0C000002, tlbehi := 0x7FFFE000, tlbelo0 := 0x0007775F, tlbelo1 := 0x00088813 } })
    (fun t => (t.pc, t.tlb[2]?)) = some (0x1C000004, some { e := true, asid := 5, g := false, ps := 12, vppn := 262143, page0 := ⟨true, true, 1, 3, 1911⟩, page1 := ⟨true, true, 1, 0, 2184⟩ }) := by decide
/-- VI8: tlbwr. -/
theorem test_VI8 : run 0x06483000 (entries { s0 with csr := { s0.csr with eentry := 0x1C008000, asid := 5, tlbidx := 0x8C000003, tlbehi := 0x7FFFE000, tlbelo0 := 0x0000005F, tlbelo1 := 0x0000005F } })
    (fun t => (t.pc, (t.tlb[3]?).map (·.e))) = some (0x1C000004, some false) := by decide
/-- VI16: invtlb 5, r5, r6. -/
theorem test_VI16 : run 0x064998A5 (regs [(5, 0x00000005), (6, 0x40003FFF)] (entries { s0 with csr := { s0.csr with eentry := 0x1C008000, asid := 5 } }))
    (fun t => (t.pc, (t.tlb[3]?).map (·.e))) = some (0x1C000004, some false) := by decide
/-- VI19: invtlb 7, r0, r0. -/
theorem test_VI19 : run 0x06498007 (entries { s0 with csr := { s0.csr with eentry := 0x1C008000, asid := 5 } })
    trap = some (0x1C008000, 0x000D0000, 0x1C000000, 0) := by decide
/-- VI22: cacop 0x08, r5, 0. -/
theorem test_VI22 : run 0x060000A8 (regs [(5, 0x00001000)] (entries { s0 with csr := { s0.csr with eentry := 0x1C008000, asid := 5, crmd := 0x0000000B } }))
    trap = some (0x1C008000, 0x000E0000, 0x1C000000, 0) := by decide
/-- VI23: cacop 0x11, r5, 0. -/
theorem test_VI23 : run 0x060000B1 (regs [(5, 0x60000001)] (entries { s0 with csr := { s0.csr with eentry := 0x1C008000, asid := 5, crmd := 0x00000010, dmw0 := 0x00000009, tlbrentry := 0x1C009000 } }))
    trap = some (0x1C009000, 0x003F0000, 0x1C000000, 0x60000001) := by decide
/-- VI25: idle 0. -/
theorem test_VI25 : run 0x06488000 (entries { s0 with csr := { s0.csr with eentry := 0x1C008000, asid := 5 } })
    (fun t => (t.pc, t.idle)) = some (0x1C000004, true) := by decide
/-- VI26: idle 0. -/
theorem test_VI26 : run 0x06488000 (entries { s0 with csr := { s0.csr with eentry := 0x1C008000, asid := 5, crmd := 0x0000000B } })
    trap = some (0x1C008000, 0x000E0000, 0x1C000000, 0) := by decide
/-- VL1: fadd.s f0, f1, f2. -/
theorem test_VL1 : run 0x01008820 { s0 with csr := { s0.csr with eentry := 0x1C008000 } }
    trap = some (0x1C008000, 0x000D0000, 0x1C000000, 0) := by decide
/-- VL2: fadd.s f0, f1, f2. -/
theorem test_VL2 : run 0x01008820 { s0 with cfg := { s0.cfg with hasFpu := true }, csr := { s0.csr with eentry := 0x1C008000, euen := 0x00000000 } }
    trap = some (0x1C008000, 0x000F0000, 0x1C000000, 0) := by decide

/-! ## The machine around the instructions -/

/-- VJ1: an interrupt line, enabled: taken before the instruction. -/
theorem test_VJ1 : run 0x001018A4 { s0 with hwi := 8, csr := { s0.csr with crmd := 0xC, ecfg := 0x1BFF, eentry := 0x1C008000 } }
    (fun t => (t.pc, t.csr.crmd, t.csr.prmd, t.csr.era, csrValue t .estat))
      = some (0x1C008000, 8, 4, 0x1C000000, 0x20) := by decide
/-- VJ4: the interrupt wins over a misaligned PC. -/
theorem test_VJ4 : after (step { s0 with pc := 0x1C000102, csr := { s0.csr with crmd := 0xF, ecfg := 1, estat := 1, eentry := 0x1C008000 } })
    trap = some (0x1C008000, 1, 0x1C000102, 0) := by decide
/-- VJ8: a waiting core with no interrupt enabled stays as it is. -/
theorem test_VJ8 : after (step { s0 with idle := true, hwi := 1 }) (fun t => (t.pc, t.idle)) = some (0x1C000000, true) := by
  decide
/-- VH12: a 4 MB page of a global entry. -/
theorem test_VH12 : Machine.translate mapped 0x50345234 .load = .ok (0x12345234, 1) := by decide
/-- VH7: a page of a higher privilege; VH13, VH14: a page that is not valid; VM5: two entries match. -/
theorem test_VH7 : Machine.translate (mode 0x13 mapped) 0x40002000 .load = .raise (.ppi 0x40002000) ∧
    Machine.translate mapped 0x50400000 .load = .raise (.pil 0x50400000) ∧
    Machine.translate mapped 0x50400000 .store = .raise (.pis 0x50400000) ∧
    Machine.translate { mapped with tlb := mapped.tlb.set 5 { entry3 with g := true } } 0x40002000 .load
      = .fault .tlbMultipleHit := by decide
/-- VH9, VH11: the high half at PLV3. -/
theorem test_VH9 : resolve (mode 0x13 mapped) 0x80000000 .load = .raise (.adem 0x80000000) := by decide
/-- VM4: both windows hit; the first is used. -/
theorem test_VM4 : Machine.translate { mapped with csr := { mapped.csr with dmw1 := 0x02000009 } } 0x1000 .load = .ok (0x1000, 0) := by
  decide
/-- VK1: a one-shot count of 16: nothing after 15 ticks, the interrupt after 16, once. -/
theorem test_VK1 :
    ticks s0.cfg { s0.csr with tcfg := 0x11 } 15 { count := 16, running := true, expired := false, pending := false }
      = { count := 1, running := true, expired := false, pending := false } ∧
    ticks s0.cfg { s0.csr with tcfg := 0x11 } 16 { count := 16, running := true, expired := false, pending := false }
      = { count := 0, running := false, expired := true, pending := true } := by decide
/-- VM1: a zero divisor goes on. -/
theorem test_VM1 : run 0x002000A4 (regs [(5, 7)] s0) (·.pc) = some 0x1C000004 := by decide
/-- VM3: TLBFILL goes on; no register changes. -/
theorem test_VM3 : run 0x06483400 { s0 with csr := { s0.csr with tlbidx := 0x0C000002, tlbehi := 0x7FFFE000 } }
    (fun t => (t.pc, t.csr.tlbidx)) = some (0x1C000004, 0x0C000002) := by decide

/-! ## Witnesses: the hypotheses of each statement, met by a concrete state -/

/-- A state about to run `add.w r4, r5, r6`. -/
def sAdd : State := s0.withFetchWord 32 0x001018A4
/-- PLV3, direct mode. -/
def sUser : State := mode 0xB s0
/-- Direct mode, loads and stores CC. -/
def sCached : State := mode 0x88 s0
/-- A state with register 5 holding a value. -/
def r5 (w : Word) (s : State) : State := regs [(5, w)] s

theorem quiet_s0 : Quiet s0 := ⟨rfl, rfl, by decide, rfl, by decide⟩
theorem quiet_sAdd : Quiet sAdd := ⟨rfl, rfl, by decide, rfl, by decide⟩
theorem reserved_s0 : ReservedZero s0 := by intro n; cases n <;> decide
theorem reserved_sAdd : ReservedZero sAdd := by intro n; cases n <;> decide

theorem witness_StepRunsDecodedInstruction : boundary sAdd = .run sAdd ∧ Quiet sAdd ∧ fetchWord sAdd = .ok 0x001018A4 ∧
    decode 0x001018A4 = .ok (.addW 4 5 6) ∧ (Instr.addW 4 5 6).wellFormed = true :=
  ⟨rfl, quiet_sAdd, by decide, by decide, by decide⟩
theorem witness_DecodeOfEncode : (Instr.csrxchg 4 2 0x3FFF).wellFormed = true ∧ (Instr.rdcntvhW 1).wellFormed = true := by
  decide
theorem witness_EncodeOfDecode : decode 0x53FFFDFF = .ok (.b 0x1FFFFFF) := by decide
theorem witness_FetchOutcomes_misaligned : Quiet { s0 with pc := 2 } ∧ (2#32).toNat % 4 ≠ 0 :=
  ⟨⟨rfl, rfl, by decide, rfl, by decide⟩, by decide⟩
theorem witness_FetchOutcomes_raise : Quiet { mapped with pc := 0x40004000 } ∧
    resolve { mapped with pc := 0x40004000 } 0x40004000 .fetch = .raise (.tlbr 0x40004000) :=
  ⟨⟨rfl, rfl, by decide, rfl, by decide⟩, by decide⟩
/-- A fetch from CC memory whose last byte was just stored. -/
def sStaleFetch : State := { mode 0x28 s0 with stale := [(0x1C000003, ⟨true, true, true⟩)] }
theorem witness_FetchOutcomes_stale : Quiet sStaleFetch ∧ resolve sStaleFetch sStaleFetch.pc .fetch = .ok (0x1C000000, 1) ∧
    (∀ k, k < 4 → physExists sStaleFetch.cfg (0x1C000000 + k) = true) ∧ 3 < 4 ∧
    lookupKey (0x1C000000 + 3) sStaleFetch.stale ≠ none :=
  ⟨⟨rfl, rfl, by decide, rfl, by decide⟩, by decide, by decide, by decide, by decide⟩
/-- A fetch from SUC memory one byte of which is in the record with the flags `f`. -/
def sStaleSuc (f : StaleFlags) : State := { s0 with stale := [(0x1C000000, f)] }
theorem witness_FetchOutcomes_staleSuc : Quiet (sStaleSuc ⟨false, true, true⟩) ∧
    resolve (sStaleSuc ⟨false, true, true⟩) 0x1C000000 .fetch = .ok (0x1C000000, 0) ∧
    lookupKey (0x1C000000 + 0) (sStaleSuc ⟨false, true, true⟩).stale = some ⟨false, true, true⟩ :=
  ⟨⟨rfl, rfl, by decide, rfl, by decide⟩, by decide, by decide⟩
theorem witness_FetchOutcomes_fetched : Quiet (sStaleSuc ⟨false, true, false⟩) ∧
    resolve (sStaleSuc ⟨false, true, false⟩) 0x1C000000 .fetch = .ok (0x1C000000, 0) ∧
    (∀ k, k < 4 → physExists s0.cfg (0x1C000000 + k) = true) ∧
    fetchWord (sStaleSuc ⟨false, true, false⟩) = .ok 0 :=
  ⟨⟨rfl, rfl, by decide, rfl, by decide⟩, by decide, by decide, by decide⟩
theorem witness_FetchOutcomes_noMemory : Quiet { s0 with cfg := { s0.cfg with physMem := [⟨0, 0x1C000003⟩] } } ∧
    resolve { s0 with cfg := { s0.cfg with physMem := [⟨0, 0x1C000003⟩] } } 0x1C000000 .fetch = .ok (0x1C000000, 0) ∧
    physExists { s0.cfg with physMem := [⟨0, 0x1C000003⟩] } (0x1C000000 + 3) = false :=
  ⟨⟨rfl, rfl, by decide, rfl, by decide⟩, by decide, by decide⟩
theorem witness_FetchOutcomes_mode : resetAsserted (mode 0x18 s0) = false ∧
    crmdDa (mode 0x18 s0).csr = crmdPg (mode 0x18 s0).csr ∧ crmdDa (mode 0 s0).csr = crmdPg (mode 0 s0).csr := by decide
theorem witness_FetchOutcomes_undefined : Quiet s0 ∧ fetchWord s0 = .ok 0 ∧ decode 0 = .error .undefinedWord :=
  ⟨quiet_s0, by decide, by decide⟩
theorem witness_FetchOutcomes_counter : fetchWord (s0.withFetchWord 32 0x000060A4) = .ok 0x000060A4 ∧
    decode 0x000060A4 = .error .nonCanonicalCounter := by decide

theorem witness_StepKeepsMemoryCanonical : MemoryCanonical sAdd ∧ StaleOrdered sAdd ∧ goesOn (step sAdd) = true :=
  ⟨by unfold MemoryCanonical; decide, by unfold StaleOrdered; decide, by decide⟩
theorem witness_StepKeepsLevelLegal : LevelLegal sUser ∧ goesOn (step sUser) = true :=
  ⟨by unfold LevelLegal; decide, by decide⟩
theorem witness_StepKeepsReservedBitsZero : ReservedZero sAdd ∧ goesOn (step sAdd) = true := ⟨reserved_sAdd, by decide⟩
theorem witness_StepKeepsZeroSlotTimerAndSizes : goesOn (step sAdd) = true ∧ ZeroSlot sAdd ∧
    TimerEnabled { sAdd with timer := { sAdd.timer with running := true }, csr := { sAdd.csr with tcfg := 1 } } :=
  ⟨by decide, by unfold ZeroSlot; decide, by unfold TimerEnabled; decide⟩
theorem witness_UserLevelLeftOnlyByEntry : crmdPlv sUser.csr = 3 ∧ goesOn (step sUser) = true := by decide
theorem witness_UserInstructionKeepsPrivilegedState : crmdPlv sUser.csr = 3 ∧ goesOn (exec (.addW 4 5 6) sUser) = true ∧
    goesOn (exec (.csrwr 4 0) sUser) = true := by decide

theorem witness_DivideResult :
    (readReg (regs [(5, 7), (6, 2)] s0) 6 ≠ 0 ∧ readReg (regs [(5, 7), (6, 2)] s0) 5 ≠ 0x80000000) ∧
    (readReg (regs [(5, 0x80000000), (6, 0xFFFFFFFF)] s0) 5 = 0x80000000 ∧
      readReg (regs [(5, 0x80000000), (6, 0xFFFFFFFF)] s0) 6 = 0xFFFFFFFF) ∧ readReg s0 6 = 0 := by decide
theorem witness_DivisionLaw : (4 : Reg) ≠ 0 ∧ readReg (regs [(5, 0x80000000), (6, 2)] s0) 6 ≠ 0 ∧
    ¬ readReg (regs [(5, 0x80000000), (6, 2)] s0) 6 = 0xFFFFFFFF ∧
    goesOn (exec (.divW 4 5 6) (regs [(5, 0x80000000), (6, 2)] s0)) = true ∧
    goesOn (exec (.modW 4 5 6) (regs [(5, 0x80000000), (6, 2)] s0)) = true := by decide

theorem witness_LoadResult :
    dataAccess (r5 0xFFFFFFFF s0) .byte (readReg (r5 0xFFFFFFFF s0) 5 + (0#12).signExtend 32) .load = .ok (0xFFFFFFFF, 0) ∧
    dataAccess (r5 0xFFFFFFFF s0) .half (readReg (r5 0xFFFFFFFF s0) 5 + (0xFFF#12).signExtend 32) .load
      = .ok (0xFFFFFFFE, 0) ∧
    dataAccess (r5 0 s0) .word (readReg (r5 0 s0) 5 + (0xFFC#12).signExtend 32) .load = .ok (0xFFFFFFFC, 0) := by decide
theorem witness_StoreResult : MemoryCanonical (r5 0xFFFFFFFF s0) ∧
    dataAccess (r5 0xFFFFFFFF s0) .byte (readReg (r5 0xFFFFFFFF s0) 5 + (0#12).signExtend 32) .store = .ok (0xFFFFFFFF, 0) ∧
    dataAccess (r5 0xFFFFFFFF s0) .half (readReg (r5 0xFFFFFFFF s0) 5 + (0xFFF#12).signExtend 32) .store
      = .ok (0xFFFFFFFE, 0) ∧
    dataAccess sCached .word (readReg sCached 5 + (0xFFC#12).signExtend 32) .store = .ok (0xFFFFFFFC, 1) :=
  ⟨by unfold MemoryCanonical; decide, by decide, by decide, by decide⟩
/-- A platform with memory below 4096 only, and a byte whose newest value may be in a data cache. -/
def sHole : State :=
  { s0 with cfg := { s0.cfg with physMem := [⟨0, 4096⟩] }, stale := [(3, ⟨true, true, true⟩)] }
theorem witness_DataAccessChecks :
    (3#32).toNat % widthBytes .word ≠ 0 ∧ userRangeError (mode 0x13 mapped) 0x80000000 = true ∧
    Machine.translate mapped 0x40004000 .load = .raise (.tlbr 0x40004000) ∧
    Machine.translate (mode 0x108 s0) 0 .load = .ok (0, 2) ∧ Machine.translate (mode 0x188 s0) 0 .load = .ok (0, 3) ∧
    userRangeError sHole 0xFFC = false ∧ Machine.translate sHole 0x1000 .load = .ok (0x1000, 0) ∧
    physExists sHole.cfg 0x1000 = false ∧ Machine.translate sHole 0xFFC .load = .ok (0xFFC, 0) ∧
    (∀ j, j < 4 → physExists sHole.cfg (0xFFC + j) = true) ∧ (∃ f ∈ lookupKey 3 sHole.stale, f.needWb = true) ∧
    (∀ j, j < 4 → lookupKey (4 + j) sHole.stale = none) ∧ Machine.translate sCached 0xFFFFFFFC .store = .ok (0xFFFFFFFC, 1) := by
  decide
theorem witness_FailedAccessIsPrecise :
    dataAccess (r5 0x40004001 mapped) .byte (readReg (r5 0x40004001 mapped) 5 + (0#12).signExtend 32) .load
      = .raise (.tlbr 0x40004001) ∧
    dataAccess (r5 1 s0) .half (readReg (r5 1 s0) 5 + (0#12).signExtend 32) .load = .raise (.ale 1) ∧
    dataAccess (r5 2 s0) .word (readReg (r5 2 s0) 5 + (0#12).signExtend 32) .load = .raise (.ale 2) ∧
    dataAccess (r5 0x40003000 mapped) .byte (readReg (r5 0x40003000 mapped) 5 + (0#12).signExtend 32) .store
      = .raise (.pme 0x40003000) ∧
    dataAccess (r5 1 s0) .half (readReg (r5 1 s0) 5 + (0#12).signExtend 32) .store = .raise (.ale 1) ∧
    dataAccess (r5 2 s0) .word (readReg (r5 2 s0) 5 + (0#12).signExtend 32) .store = .raise (.ale 2) := by decide
/-- Group H with the second window of VH10. -/
def sWindows : State := { mapped with csr := { mapped.csr with dmw1 := 0xA6000011 } }
theorem witness_DirectAndWindowTranslation :
    (crmdDa s0.csr = true ∧ crmdPg s0.csr = false) ∧ (crmdDa mapped.csr = false ∧ crmdPg mapped.csr = true) ∧
    windowHit mapped.csr mapped.csr.dmw0 0x1FFFFFFF = true ∧
    (windowHit sWindows.csr sWindows.csr.dmw0 0xBFFFFFFF = false ∧
      windowHit sWindows.csr sWindows.csr.dmw1 0xBFFFFFFF = true) := by decide
theorem witness_TlbTranslation : crmdDa mapped.csr = false ∧ crmdPg mapped.csr = true ∧
    windowHit mapped.csr mapped.csr.dmw0 0x40004000 = false ∧ windowHit mapped.csr mapped.csr.dmw1 0x40004000 = false ∧
    windowHit mapped.csr mapped.csr.dmw0 0x40003FFF = false ∧ windowHit mapped.csr mapped.csr.dmw1 0x40003FFF = false ∧
    (∀ e ∈ mapped.tlb, inSpace (asidAsid mapped.csr) e = true → legalPs mapped.cfg e.ps = true) ∧
    (∀ e ∈ mapped.tlb, inSpace (asidAsid mapped.csr) e = true → vppnMatches e 0x40004000 = false) ∧
    (mapped.tlb[3]? = some entry3 ∧ inSpace 5 entry3 = true ∧ vppnMatches entry3 0x40003FFF = true) ∧
    (∀ m, m < 8 → ∀ f ∈ mapped.tlb[m]?, inSpace 5 f = true → vppnMatches f 0x40003FFF = true → m = 3) ∧
    ((mapped.tlb.set 5 entry3)[3]? = some entry3 ∧ (mapped.tlb.set 5 entry3)[5]? = some entry3) ∧
    (∃ e ∈ mapped.tlb.set 5 { entry3 with ps := 13 }, inSpace (asidAsid mapped.csr) e = true ∧
      legalPs mapped.cfg e.ps = false) := by decide
theorem witness_PageGeometry : entry3.ps = 12 ∧ entry4.ps = 22 := by decide
theorem witness_HighHalfAtUserLevel : (mode 0x13 mapped).cfg.adeOnPlv3High = true ∧
    crmdDa (mode 0x13 mapped).csr = false ∧ crmdPg (mode 0x13 mapped).csr = true ∧ crmdPlv (mode 0x13 mapped).csr = 3 ∧
    bit 31 0x80000000 = true ∧ windowHit (mode 0x13 mapped).csr 9 0x80000000 = false ∧
    windowHit (mode 0x13 mapped).csr 0 0x80000000 = false ∧ userRangeError (mode 0x13 mapped) 0x80000000 = true ∧
    userRangeError (mode 0x13 mapped) 0x7FFFFFFF = false := by decide

theorem witness_LoadLinkedResult :
    dataAccess (r5 0x1000 sCached) .word (readReg (r5 0x1000 sCached) 5 + (1#14 ++ 0#2).signExtend 32) .load = .ok (0x1004, 1) ∧
    dataAccess (r5 2 sCached) .word (readReg (r5 2 sCached) 5 + (0#14 ++ 0#2).signExtend 32) .load = .raise (.ale 2) ∧
    (dataAccess (r5 2 sCached) .word (readReg (r5 2 sCached) 5 + (0#14 ++ 0#2).signExtend 32) .store = .raise (.ale 2) ∧
      { r5 2 sCached with llbit := true }.llbit = true) ∧
    dataAccess s0 .word (readReg s0 5 + (0#14 ++ 0#2).signExtend 32) .load = .ok (0, 0) ∧
    dataAccess s0 .word (readReg s0 5 + (0#14 ++ 0#2).signExtend 32) .store = .ok (0, 0) := by decide
/-- After an LL.W at 0x1000. -/
def sLinked : State := { r5 0x1000 sCached with llbit := true, lladdr := 0x1000 }
theorem witness_StoreConditionalSucceeds : MemoryCanonical sLinked ∧ sLinked.llbit = true ∧
    dataAccess sLinked .word (readReg sLinked 5 + (0#14 ++ 0#2).signExtend 32) .store = .ok (0x1000, 1) ∧
    (sLinked.cfg.scAddrCheck = true → 0x1000 = sLinked.lladdr) := by
  exact ⟨by unfold MemoryCanonical; decide, by decide, by decide, by decide⟩
/-- A core that checks a failing SC.W and compares addresses. -/
def sStrict : State := { r5 0x1000 sCached with cfg := { s0.cfg with scFailChecks := true, scAddrCheck := true } }
theorem witness_StoreConditionalFails : (s0.llbit = false ∧ s0.cfg.scFailChecks = false) ∧
    (sStrict.llbit = false ∧ sStrict.cfg.scFailChecks = true ∧ sStrict.cfg.scAddrCheck = true) ∧
    dataAccess sStrict .word (readReg sStrict 5 + (1#14 ++ 0#2).signExtend 32) .store = .ok (0x1004, 1) ∧
    dataAccess (r5 2 sStrict) .word (readReg (r5 2 sStrict) 5 + (0#14 ++ 0#2).signExtend 32) .store = .raise (.ale 2) ∧
    dataAccess { s0 with cfg := sStrict.cfg } .word (readReg s0 5 + (0#14 ++ 0#2).signExtend 32) .store = .ok (0, 0) ∧
    (0x1004 ≠ { sStrict with llbit := true, lladdr := 0x1000 }.lladdr ∧
      dataAccess { sStrict with llbit := true, lladdr := 0x1000 } .word
        (readReg sStrict 5 + (1#14 ++ 0#2).signExtend 32) .store = .ok (0x1004, 1)) := by decide
theorem witness_LlbitCleared : MemoryCanonical sLinked ∧ physExists sLinked.cfg 0x1003 = true ∧
    lineOf sLinked.cfg 0x1003 = lineOf sLinked.cfg sLinked.lladdr ∧
    lineOf sLinked.cfg 0x1004 ≠ lineOf sLinked.cfg sLinked.lladdr ∧ crmdPlv sLinked.csr = 0 ∧
    goesOn (exec .ertn sLinked) = true ∧ physExists sHole.cfg 0x1000 = false ∧ sLinked.env = [] ∧
    { sLinked with env := [{ hwi := 0x81, ticks := 2, writes := [(0x1003, 7)] }] }.env
      = [{ hwi := 0x81, ticks := 2, writes := [(0x1003, 7)] }] := by
  exact ⟨by unfold MemoryCanonical; decide, by decide, by decide, by decide, by decide, by decide, by decide, by decide,
    by decide⟩
theorem witness_PrefetchAndBarrierResult : s0.cfg.dbarHints = .asZero ∧ s0.cfg.ibarHints = .asZero ∧
    ((0#15) = 0 ∨ ({ s0.cfg with dbarHints := .refuse } : Config.Params).dbarHints = .asZero) ∧
    (0x7FFF#15) ≠ 0 ∧ ({ s0.cfg with dbarHints := .refuse } : Config.Params).dbarHints = .refuse ∧
    ({ s0.cfg with ibarHints := .refuse } : Config.Params).ibarHints = .refuse ∧ StaleOrdered sStaleFetch :=
  ⟨by decide, by decide, by decide, by decide, by decide, by decide, by unfold StaleOrdered; decide⟩
theorem witness_CodeStoreBecomesVisible : StaleOrdered sCached ∧ 2 ≤ sCached.cfg.lineOffset ∧ 0x1000 % 4 = 0 ∧
    resolve (r5 0x1000 sCached) (readReg (r5 0x1000 sCached) 5 + (3#12).signExtend 32) .load = .ok (0x1003, 1) ∧
    0x1003 / 2 ^ sCached.cfg.lineOffset = 0x1000 / 2 ^ sCached.cfg.lineOffset ∧
    (after (exec (.cacop 0x11 5 3) (storeAt (r5 0x1000 sCached) 0x1000 1 .word 0)) fun a =>
      (after (exec (.cacop 0x10 5 3) a) fun b => goesOn (exec (.ibar 0) b))) = some (some true) :=
  ⟨by unfold StaleOrdered; decide, by decide, by decide, by decide, by decide, by decide⟩

theorem witness_PrivilegedAtUserLevel : crmdPlv sUser.csr ≠ 0 ∧ (6#5) ≤ 6 ∧ (0x0F#5).extractLsb' 3 2 ≠ 2 ∧
    (0x18#5).extractLsb' 3 2 ≠ 2 ∧ (6#5) < 7 ∧
    resolve (r5 3 sUser) (readReg (r5 3 sUser) 5 + (0#12).signExtend 32) .load = .ok (3, 0) := by decide
theorem witness_ErtnEffect : crmdPlv s0.csr = 0 ∧ bits 0 2 s0.csr.prmd = 0 ∧
    bits 0 2 ({ s0.csr with prmd := 3 } : Csrs).prmd = 3 ∧ bits 0 2 ({ s0.csr with prmd := 1 } : Csrs).prmd = 1 ∧
    bits 0 2 ({ s0.csr with prmd := 2 } : Csrs).prmd = 2 := by decide
theorem witness_EntryThenErtnRestores : LevelLegal mapped ∧
    (isRefill (.tlbr 0) = true → crmdDa mapped.csr = false ∧ crmdPg mapped.csr = true) :=
  ⟨by unfold LevelLegal; decide, by decide⟩
/-- A core that waits with an enabled line high and IE 0. -/
def sWait (ie : Word) : State :=
  { s0 with idle := true, hwi := 1, csr := { s0.csr with ecfg := 4, crmd := 8 ||| ie } }
theorem witness_IdleWaitsAndWakes : crmdPlv s0.csr = 0 ∧ (sWait 0).idle = true ∧ resetAsserted (sWait 0) = false ∧
    crmdDa (sWait 0).csr ≠ crmdPg (sWait 0).csr ∧ intVector (environment { sWait 0 with hwi := 0 }) = false ∧
    (intVector (environment (sWait 0)) = true ∧ crmdIe (sWait 0).csr = false) ∧
    (intVector (environment (sWait 4)) = true ∧ crmdIe (sWait 4).csr = true ∧ (sWait 4).cfg.intLatency = .immediate) := by
  decide
theorem witness_InterruptIsTaken : (sWait 4).env = [] ∧ (sWait 4).timer.running = false ∧
    crmdDa (sWait 4).csr ≠ crmdPg (sWait 4).csr ∧ { sWait 4 with idle := false }.idle = false ∧
    intPending (sWait 4) = true ∧ (sWait 4).cfg.intLatency = .immediate ∧ State.reset.cfg.intLatency = .any := by decide

theorem witness_CsrReadValues : ReservedZero s0 ∧ s0.cfg.timerBits ≤ 32 := ⟨reserved_s0, by decide⟩
theorem witness_CsrReadResult : crmdPlv s0.csr = 0 ∧ csrOf 0x181 = some .dmw1 ∧
    (csrOf 0x42 = some .tval ∧ s0.timer.expired = false ∧ { s0.timer with expired := true }.expired = true) ∧
    csrOf 0x182 = none ∧ csrOf 0x98 = some .ctag := by decide
theorem witness_CsrWriteResult : s0.tlb.length ≤ 2 ^ 3 ∧ (∀ m, m < 3 → 2 ^ m < s0.tlb.length) ∧ crmdPlv s0.csr = 0 ∧ csrOf 0x0C = some .eentry ∧
    CsrName.eentry ∉ [CsrName.crmd, .tcfg, .ticlr, .llbctl, .ctag, .tval] ∧ readReg (r5 1 s0) 5 ≠ 0 := by decide
theorem witness_CsrWriteSideEffects : crmdPlv s0.csr = 0 ∧ Instr.csrwr 5 = Instr.csrwr 5 ∧
    Instr.csrxchg 4 5 = Instr.csrxchg 4 5 ∧ readReg (r5 0x18 s0) 5 = 0x18 ∧ (0x18 : Word) ≠ 0 ∧
    [0#32, 1, 2, 3].map (fun v => bits 0 2 ((s0.csr.crmd &&& ~~~(0x1FF#32 &&& 0xFFFFFFFF#32)) |||
      (readReg (r5 v s0) 5 &&& (0x1FF#32 &&& 0xFFFFFFFF#32)))) = [0, 1, 2, 3] :=
  ⟨by decide, rfl, rfl, by decide, by decide, by decide⟩
theorem witness_CsrWriteOfNothing : crmdPlv s0.csr = 0 ∧ csrOf 0x0 = some .crmd ∧ readReg s0 5 = 0 ∧ csrOf 0x3 = none ∧
    csrOf 0x42 = some .tval ∧ s0.timer.expired = false ∧ csrOf 0x98 = some .ctag ∧
    { s0.timer with expired := true }.expired = true := by
  decide

/-- Group I: the entries, PLV0, ASID 5, a search key. -/
def sTlb (w key : Word) : State :=
  entries { s0 with csr := { s0.csr with asid := 5, tlbidx := w, tlbehi := key } }
theorem witness_TlbSearchResult : crmdPlv (sTlb 0 0x40002000).csr = 0 ∧
    (∀ e ∈ (sTlb 0 0x40002000).tlb, inSpace 5 e = true → legalPs s0.cfg e.ps = true) ∧
    (∀ e ∈ (sTlb 0 0x40004000).tlb, inSpace 5 e = true → vppnMatches e (bits 13 19 0x40004000 ++ 0#13) = false) ∧
    ((sTlb 0 0x40002000).tlb[3]? = some entry3 ∧ inSpace 5 entry3 = true ∧
      vppnMatches entry3 (bits 13 19 0x40002000 ++ 0#13) = true) ∧
    (∀ m, m < 8 → ∀ f ∈ (sTlb 0 0x40002000).tlb[m]?, inSpace 5 f = true →
      vppnMatches f (bits 13 19 0x40002000 ++ 0#13) = true → m = 3) ∧ (sTlb 0 0x40002000).tlb.length ≤ 2 ^ 16 ∧
    (((sTlb 0 0x40002000).tlb.set 5 entry3)[3]? = some entry3 ∧ ((sTlb 0 0x40002000).tlb.set 5 entry3)[5]? = some entry3) ∧
    (∃ e ∈ (sTlb 0 0).tlb.set 5 { entry3 with ps := 13 }, inSpace 5 e = true ∧ legalPs s0.cfg e.ps = false) := by decide
theorem witness_TlbReadResult : crmdPlv (sTlb 3 0).csr = 0 ∧ (sTlb 3 0).tlb[tlbidxIndex (sTlb 3 0)]? = some entry3 ∧
    (sTlb 7 0).tlb[tlbidxIndex (sTlb 7 0)]? = some TlbEntry.zero ∧
    { sTlb 7 0 with tlb := (sTlb 7 0).tlb.take 7 }.tlb[tlbidxIndex { sTlb 7 0 with tlb := (sTlb 7 0).tlb.take 7 }]? = none := by
  decide
theorem witness_TlbWriteResult : crmdPlv (sTlb 0x0C000007 0).csr = 0 ∧ bits 24 6 (sTlb 0x0C000007 0).csr.tlbidx = 12 ∧
    tlbidxIndex (sTlb 0x0C000007 0) < (sTlb 0x0C000007 0).tlb.length ∧
    (bit 31 (sTlb 0x80000000 0).csr.tlbidx = true ∧ bits 16 6 (sTlb 0x80000000 0).csr.estat ≠ 0x3F) ∧
    ((sTlb 0 0).tlb.length ≤ 2 ^ 3 ∧ (∀ m, m < 3 → 2 ^ m < (sTlb 0 0).tlb.length)) ∧
    ((sTlb 7 0).tlb.take 7).length ≤ tlbidxIndex { sTlb 7 0 with tlb := (sTlb 7 0).tlb.take 7 } ∧
    (bit 31 (sTlb 0x0D000007 0).csr.tlbidx = false ∧ bits 24 6 (sTlb 0x0D000007 0).csr.tlbidx = 13 ∧
      (13#6) ≠ s0.cfg.psLarge ∧ tlbidxIndex (sTlb 0x0D000007 0) < (sTlb 0x0D000007 0).tlb.length) := by decide
theorem witness_TlbReadsBackWhatWasWritten : crmdPlv (sTlb 0x0C000007 0).csr = 0 ∧ ReservedZero (sTlb 0x0C000007 0) ∧
    (sTlb 0x0C000007 0).cfg.palen ≤ 36 ∧ 12 ≤ (sTlb 0x0C000007 0).cfg.palen ∧
    bit 31 (sTlb 0x0C000007 0).csr.tlbidx = false ∧
    bit 6 (sTlb 0x0C000007 0).csr.tlbelo0 = bit 6 (sTlb 0x0C000007 0).csr.tlbelo1 ∧
    goesOn (exec .tlbwr (sTlb 0x0C000007 0)) = true :=
  ⟨by decide, by intro n; cases n <;> decide, by decide, by decide, by decide, by decide, by decide⟩
theorem witness_InvtlbResult : crmdPlv (sTlb 0 0).csr = 0 ∧ (readReg (r5 1023 (sTlb 0 0)) 5).toNat < 1024 ∧
    (∀ e ∈ (sTlb 0 0).tlb, e.e = true → legalPs s0.cfg e.ps = true) ∧ (6#5) ≤ 6 ∧ 6 < (7#5) ∧
    ((4#5) ≤ 6 ∧ 1024 ≤ (readReg (r5 1024 (sTlb 0 0)) 5).toNat) ∧
    (∃ e ∈ (sTlb 0 0).tlb.set 5 { entry3 with ps := 13 }, e.e = true ∧ legalPs s0.cfg e.ps = false ∧
      e.g = false ∧ e.asid = bits 0 10 (readReg (r5 5 (sTlb 0 0)) 5)) := by decide
theorem witness_CacopResult : crmdPlv sCached.csr = 0 ∧ (2#5).toNat < 3 ∧ sCached.ccDirty = false ∧
    (8 ≤ (8#5).toNat ∧ (10#5).toNat < 11) ∧ resolve sCached (readReg sCached 5 + (1#12).signExtend 32) .load = .ok (1, 1) ∧
    resolve s0 (readReg s0 5 + (1#12).signExtend 32) .load = .ok (1, 0) ∧
    resolve (r5 0x60000001 mapped) (readReg (r5 0x60000001 mapped) 5 + (0#12).signExtend 32) .load
      = .raise (.tlbr 0x60000001) ∧
    3 ≤ (3#5).toNat % 8 ∧ 24 ≤ (24#5).toNat ∧ (3 ≤ (19#5).toNat % 8 ∧ 16 ≤ (19#5).toNat) ∧ (23#5).toNat < 24 ∧ { sCached with ccDirty := true }.ccDirty = true := by decide
theorem witness_FloatWordResult : (Instr.faddS 0 1 2).isFloat = true ∧ s0.cfg.hasFpu = false ∧
    ({ s0.cfg with hasFpu := true } : Config.Params).hasFpu = true ∧ bit 0 s0.csr.euen = false ∧
    bit 0 ({ s0.csr with euen := 1 } : Csrs).euen = true := by decide
/-- A running timer. -/
def tRun (n : Word) : Timer := { count := n, running := true, expired := false, pending := false }
theorem witness_TimerTicks : s0.timer.running = false ∧ (tRun 16).running = true ∧ 15 < (tRun 16).count.toNat ∧
    bit 1 (0x11 : Word) = false ∧ (tRun 16).count.toNat ≤ 16 ∧ bit 1 (0x13 : Word) = true ∧ 0 < (tRun 1).count.toNat ∧
    (tRun 0).count = 0 ∧ bit 1 (3 : Word) = true ∧ timerStart s0.cfg { s0.csr with tcfg := 3 } = 0 := by decide
theorem witness_ResetAtABoundary : resetAsserted { s0 with env := [{ reset := true }], idle := true } = true := by decide

end Sys2Proof.Tests
end

section
/-! PROOFS. What one instruction of any kind can do, once: nothing privileged, an exception, or at PLV0 one of the
effects on the CSRs, the TLB, the level and the wait (47_privileged.md R343). -/

namespace Sys2Proof.Machine

open Sys2Proof

theorem Ordinary.of_next {s t : State} (h : Ordinary s t) {u : State} (hu : (Host.Outcome.next t : Out) = .next u) :
    Ordinary s u := by
  cases hu
  exact h

/-- A CSR read is ordinary (R340). -/
theorem ordinary_csrRead (s : State) (n : BitVec 14) : Ordinary s (csrRead s n).2 := by
  rcases csrRead_state s n with h | h <;> rw [h]
  · exact Ordinary.refl s
  · exact ordinary_drawn s

/-- What a privileged instruction can do at PLV0 beyond what an ordinary one can: a CSR write (R344), TLBSRCH (R360),
TLBRD (R361), a change of TLB entries (R362, R363, R365), ERTN (R375), IDLE (R380). -/
inductive PrivilegedEffect (s : State) : State → Prop
  | csrWrite {r u t : State} {num : BitVec 14} {v m : Word} (read : Ordinary s r)
      (write : csrWrite r num v m = .ok u) (finish : Ordinary u t) : PrivilegedEffect s t
  | search (hit : Option (TlbEntry × Nat)) :
      PrivilegedEffect s (advance { s with csr := { s.csr with tlbidx := searchResult s hit } })
  | readEntry (e : TlbEntry) : PrivilegedEffect s (advance { s with csr := readEntry s.cfg e s.csr })
  | setTlb {r : State} (draw : Ordinary s r) (l : List TlbEntry) (length : l.length = r.tlb.length) :
      PrivilegedEffect s (advance { r with tlb := l })
  | ertn (not1 : prmdPplv s.csr ≠ 1) (not2 : prmdPplv s.csr ≠ 2) : PrivilegedEffect s (exceptionReturn s)
  | idle : PrivilegedEffect s { advance s with idle := true }

/-- How an instruction can end in a next state. -/
inductive InstrEffect (s : State) : State → Prop
  | ordinary {t : State} (h : Ordinary s t) : InstrEffect s t
  | exception (e : Exc) : InstrEffect s (enter e s)
  | privileged {t : State} (kernel : crmdPlv s.csr = 0) (h : PrivilegedEffect s t) : InstrEffect s t

theorem instrEffect_of_cases {s t : State} (h : Ordinary s t ∨ ∃ e, t = enter e s) : InstrEffect s t := by
  rcases h with h | ⟨e, rfl⟩
  · exact .ordinary h
  · exact .exception e

theorem instrEffect_of_exception {s t : State} (h : ∃ e, t = enter e s) : InstrEffect s t :=
  instrEffect_of_cases (.inr h)

/-- A privileged instruction has the effect of its body, or raises IPE (R343). -/
theorem instrEffect_privileged {s t : State} {k : Out} (h : privileged s k = .next t)
    (body : crmdPlv s.csr = 0 → k = .next t → InstrEffect s t) : InstrEffect s t := by
  rcases privileged_next h with ⟨hp, hk⟩ | ⟨_, rfl⟩
  · exact body hp hk
  · exact .exception .ipe

/-- CSRWR and CSRXCHG at PLV0 (R341, R342). -/
theorem instrEffect_csrSwap {rd : Reg} {num : BitVec 14} {m : Word} {s t : State} (hp : crmdPlv s.csr = 0)
    (h : csrSwap rd num m s = .next t) : InstrEffect s t := by
  rcases settle_next h with ⟨u, hw, hf⟩ | ⟨e, _, rfl⟩
  · exact .privileged hp (.csrWrite (ordinary_csrRead s num) hw (ordinary_finish (Ordinary.refl u) hf))
  · exact .exception e

/-- Writing an entry replaces one entry of the TLB and nothing else (R362 to R364). -/
theorem writeEntry_ok {i : Nat} {s t : State} (h : writeEntry i s = .ok t) :
    t = { s with tlb := s.tlb.set i (entryFromCsr s) } := by
  unfold writeEntry at h
  split at h
  · cases h
  · cases h; rfl

/-- TLBWR and TLBFILL at PLV0, once the entry is chosen. -/
theorem instrEffect_writeEntry {i : Nat} {s r t : State} (hp : crmdPlv s.csr = 0) (hr : Ordinary s r)
    (h : settle s (writeEntry i r) (fun u => .next (advance u)) = .next t) : InstrEffect s t := by
  rcases settle_next h with ⟨u, hw, hn⟩ | ⟨e, _, rfl⟩
  · cases hn
    rw [writeEntry_ok hw]
    exact .privileged hp (.setTlb hr _ List.length_set)
  · exact .exception e

theorem instrEffect_tlbsrch {s t : State} (h : execTlbsrch s = .next t) : InstrEffect s t := by
  refine instrEffect_privileged h fun hp hk => ?_
  rcases settle_next hk with ⟨hit, _, hn⟩ | ⟨e, _, rfl⟩
  · cases hn
    exact .privileged hp (.search hit)
  · exact .exception e

theorem instrEffect_tlbrd {s t : State} (h : execTlbrd s = .next t) : InstrEffect s t := by
  refine instrEffect_privileged h fun hp hk => ?_
  split at hk
  · cases hk
  · next e _ =>
    cases hk
    exact .privileged hp (.readEntry e)

theorem instrEffect_tlbwr {s t : State} (h : execTlbwr s = .next t) : InstrEffect s t := by
  refine instrEffect_privileged h fun hp hk => ?_
  split at hk
  · cases hk
  · exact instrEffect_writeEntry hp (Ordinary.refl s) hk

theorem instrEffect_tlbfill {s t : State} (h : execTlbfill s = .next t) : InstrEffect s t :=
  instrEffect_privileged h fun hp hk => instrEffect_writeEntry hp (ordinary_drawn s) hk

theorem instrEffect_invtlb {op : BitVec 5} {rj rk : Reg} {s t : State} (h : execInvtlb op rj rk s = .next t) :
    InstrEffect s t := by
  unfold execInvtlb at h
  split at h
  · cases h; exact .exception .ine
  · refine instrEffect_privileged h fun hp hk => ?_
    split at hk
    · cases hk
    · split at hk
      · cases hk
      · cases hk
        exact .privileged hp (.setTlb (Ordinary.refl s) _ (List.length_map _))

theorem instrEffect_ertn {s t : State} (h : execErtn s = .next t) : InstrEffect s t := by
  refine instrEffect_privileged h fun hp hk => ?_
  split at hk
  · cases hk
  · next hl =>
    cases hk
    obtain ⟨h1, h2⟩ := not_or.mp hl
    exact .privileged hp (.ertn h1 h2)

/-- The whole of what an instruction that ends in a next state can do. -/
theorem exec_effect {i : Instr} {s t : State} (h : exec i s = .next t) : InstrEffect s t := by
  cases i with
  | rdcntid | addW | subW | slt | sltu | norR | andR | orR | xorR | sllW | srlW | sraW | mulW | mulhW | mulhWu | slliW
  | srliW | sraiW | slti | sltui | addiW | andi | ori | xori | lu12iW | pcaddu12i =>
    exact .ordinary (ordinary_finish (Ordinary.refl s) h)
  | rdcntvlW | rdcntvhW => exact .ordinary (ordinary_finish (ordinary_counterAdvanced s) h)
  | divW | modW | divWu | modWu => exact .ordinary (ordinary_finishDivide h)
  | breakI => cases h; exact .exception .brk
  | syscallI => cases h; exact .exception .sys
  | ldB | ldH | ldW | ldBu | ldHu => exact instrEffect_of_cases (loadInto_cases h)
  | stB | stH | stW => exact instrEffect_of_cases (storeFrom_cases h)
  | llW => exact instrEffect_of_cases (execLlW_cases h)
  | scW => exact instrEffect_of_cases (execScW_cases h)
  | preld => exact .ordinary ((ordinary_advance s).of_next h)
  | dbar => exact .ordinary ((ordinary_advance s).of_next (barrier_next h))
  | ibar =>
    have hs := ordinary_stale s _ (rising_clearNeedIbar s.stale)
    exact .ordinary ((hs.trans (ordinary_advance _)).of_next (barrier_next h))
  | b => exact .ordinary ((ordinary_goto s _).of_next h)
  | jirl | bl => exact .ordinary (((ordinary_writeReg s _ _).trans (ordinary_goto _ _)).of_next h)
  | beq | bne | blt | bge | bltu | bgeu => exact .ordinary (ordinary_branchIf h)
  | cacop => exact instrEffect_of_cases (execCacop_cases h)
  | csrrd rd num =>
    exact instrEffect_privileged h fun _ hk => .ordinary (ordinary_finish (ordinary_csrRead s num) hk)
  | csrwr | csrxchg => exact instrEffect_privileged h instrEffect_csrSwap
  | tlbsrch => exact instrEffect_tlbsrch h
  | tlbrd => exact instrEffect_tlbrd h
  | tlbwr => exact instrEffect_tlbwr h
  | tlbfill => exact instrEffect_tlbfill h
  | invtlb => exact instrEffect_invtlb h
  | ertn => exact instrEffect_ertn h
  | idle =>
    refine instrEffect_privileged h fun hp hk => ?_
    cases hk
    exact .privileged hp .idle
  -- the 73 floating-point instructions
  | _ => exact instrEffect_of_exception (floatInstr_next h)

end Sys2Proof.Machine
end

section
/-! PROOFS. The invariants of 10_state.md that every step keeps: the reserved bits of the CSRs are 0 (R30), the slot of
`x[0]` is 0 (R21), the timer runs only while enabled (R445), the number of TLB entries and the parameters are fixed
(R7, R58). -/

namespace Sys2Proof.Machine

open Sys2Proof

/-- `w` has no bit outside the mask `m`, as `ReservedZero` writes it for each CSR. -/
abbrev Within (m w : Word) : Prop := w &&& ~~~m = 0

theorem reservedZero_iff (s : State) : ReservedZero s ↔ ∀ n, Within (implemented s n) (stored s.csr n) := Iff.rfl

theorem within_iff (m w : Word) : Within m w ↔ ∀ i, w.getLsbD i = true → m.getLsbD i = true := by
  constructor
  · intro h i hw
    have hm := congrArg (·.getLsbD i) (and_mask_of_reserved w m h)
    simpa [hw, -BitVec.getLsbD_eq_getElem] using hm
  · intro h
    refine BitVec.eq_of_getLsbD_eq fun i hi => ?_
    have := h i
    cases hw : w.getLsbD i <;> simp_all [-BitVec.getLsbD_eq_getElem]

theorem Within.trans {m k w : Word} (h : Within m w) (hk : Within k m) : Within k w :=
  (within_iff k w).2 fun i hi => (within_iff k m).1 hk i ((within_iff m w).1 h i hi)

theorem within_self (m : Word) : Within m m := BitVec.and_not_self m

theorem within_allOnes (w : Word) : Within (BitVec.allOnes 32) w := by
  simp [Within]

theorem within_zero (m : Word) : Within m 0 := BitVec.zero_and

theorem within_and (w m : Word) : Within m (w &&& m) := and_mask_not w m

theorem Within.and_left {m w : Word} (h : Within m w) (v : Word) : Within m (w &&& v) :=
  (within_iff m _).2 fun i hi => (within_iff m w).1 h i (by
    rw [BitVec.getLsbD_and, Bool.and_eq_true] at hi; exact hi.1)

theorem Within.or {m v w : Word} (hv : Within m v) (hw : Within m w) : Within m (v ||| w) :=
  (within_iff m _).2 fun i hi => by
    rw [BitVec.getLsbD_or, Bool.or_eq_true] at hi
    exact hi.elim ((within_iff m v).1 hv i) ((within_iff m w).1 hw i)

theorem Within.left {a w : Word} (h : Within a w) (b : Word) : Within (a ||| b) w :=
  (within_iff _ w).2 fun i hi => by rw [BitVec.getLsbD_or, (within_iff a w).1 h i hi, Bool.true_or]

theorem Within.right {b w : Word} (h : Within b w) (a : Word) : Within (a ||| b) w :=
  (within_iff _ w).2 fun i hi => by rw [BitVec.getLsbD_or, (within_iff b w).1 h i hi, Bool.or_true]

/-- A placed field lies in the bits of the field. -/
theorem within_place (lo : Nat) {n : Nat} (v : BitVec n) : Within (place lo (BitVec.allOnes n)) (place lo v) :=
  (within_iff _ _).2 fun i hi => by
    simp only [getLsbD_place, Bool.and_eq_true, decide_eq_true_eq] at hi ⊢
    exact ⟨hi.1, by rw [BitVec.getLsbD_allOnes, decide_eq_true_eq]; exact BitVec.lt_of_getLsbD hi.2⟩

/-- Setting a field that lies in the mask. -/
theorem Within.setBits {m w : Word} (h : Within m w) (lo : Nat) {n : Nat} (v : BitVec n)
    (hf : Within m (place lo (BitVec.allOnes n))) : Within m (setBits lo v w) :=
  (h.and_left _).or ((within_place lo v).trans hf)

/-- The mixed value of a CSR write (R344). -/
theorem Within.mixBits {k old : Word} (h : Within k old) (v m : Word) (hm : Within k m) :
    Within k (mixBits old v m) :=
  (h.and_left _).or ((within_and v m).trans hm)

/-- The reserved bits stay 0 when every CSR keeps its stored part or gets one of implemented bits only. -/
theorem ReservedZero.of_changed {s t : State} (h : ReservedZero s) (hc : t.cfg = s.cfg)
    (hl : t.tlb.length = s.tlb.length)
    (hs : ∀ n, stored t.csr n = stored s.csr n ∨ Within (implemented s n) (stored t.csr n)) : ReservedZero t := by
  have hi : ∀ n, implemented t n = implemented s n := by
    intro n
    cases n <;> simp only [implemented, rwMask, tlbIdxBits, hc, hl]
  refine (reservedZero_iff t).2 fun n => ?_
  rw [hi n]
  rcases hs n with e | e
  · rw [e]; exact h n
  · exact e

theorem reservedZero_of_csr_eq {s t : State} (h : ReservedZero s) (hc : t.cfg = s.cfg)
    (hl : t.tlb.length = s.tlb.length) (hs : t.csr = s.csr) : ReservedZero t :=
  h.of_changed hc hl fun n => .inl (by rw [hs])

theorem enterCsrs_tlbehi_some {e : Exc} {va : Word} (h : tlbAddress e = some va) (pc : Word) (c : Csrs) :
    (enterCsrs e pc c).tlbehi = setBits 13 (bits 13 19 va) c.tlbehi := by
  simp only [enterCsrs, h]

theorem enterCsrs_tlbehi_none {e : Exc} (h : tlbAddress e = none) (pc : Word) (c : Csrs) :
    (enterCsrs e pc c).tlbehi = c.tlbehi := by
  simp only [enterCsrs, h]

/-- Exception entry writes implemented fields only (R420 to R422). -/
theorem reservedZero_enter {s : State} (h : ReservedZero s) (e : Exc) : ReservedZero (enter e s) := by
  refine h.of_changed rfl rfl fun n => ?_
  cases n with
  | crmd =>
    have hcrmd : Within 0x1FF s.csr.crmd := h .crmd
    have hlevel : Within 0x1FF (setBits 2 (0#1) (setBits 0 (0#2) s.csr.crmd)) :=
      (hcrmd.setBits 0 _ (by decide)).setBits 2 _ (by decide)
    refine .inr (show Within 0x1FF (enterCsrs e s.pc s.csr).crmd from ?_)
    rw [enterCsrs_crmd]
    split
    · exact (hlevel.setBits 3 _ (by decide)).setBits 4 _ (by decide)
    · exact hlevel
  | prmd =>
    have hprmd : Within 0x7 s.csr.prmd := h .prmd
    exact .inr ((hprmd.setBits 0 (bits 0 2 s.csr.crmd) (by decide)).setBits 2 (bits 2 1 s.csr.crmd) (by decide))
  | era => exact .inr (within_allOnes _)
  | badv => exact .inr (within_allOnes _)
  | estat =>
    have hestat : Within 0x7FFF0003 s.csr.estat := h .estat
    exact .inr ((hestat.setBits 16 (ecodeOf e) (by decide)).setBits 22 (esubcodeOf e) (by decide))
  | tlbehi =>
    have htlbehi : Within (~~~lowMask 13) s.csr.tlbehi := h .tlbehi
    cases he : tlbAddress e with
    | some va =>
      have := htlbehi.setBits 13 (bits 13 19 va) (by decide)
      exact .inr (by rwa [enter_csr, stored, enterCsrs_tlbehi_some he])
    | none => exact .inl (by rw [enter_csr, stored, enterCsrs_tlbehi_none he]; rfl)
  | _ => exact .inl rfl

/-- ERTN writes implemented fields only (R375). -/
theorem reservedZero_exceptionReturn {s : State} (h : ReservedZero s) : ReservedZero (exceptionReturn s) := by
  refine h.of_changed rfl rfl fun n => ?_
  cases n with
  | crmd =>
    have hcrmd : Within 0x1FF s.csr.crmd := h .crmd
    have hlevel (v w) : Within 0x1FF (setBits 2 (n := 1) v (setBits 0 (n := 2) w s.csr.crmd)) :=
      (hcrmd.setBits 0 w (by decide)).setBits 2 v (by decide)
    refine .inr (show Within 0x1FF (returnCsrs s.csr).crmd from ?_)
    unfold returnCsrs
    dsimp only
    split
    · exact ((hlevel _ _).setBits 3 _ (by decide)).setBits 4 _ (by decide)
    · exact hlevel _ _
  | llbctl =>
    have hllbctl : Within 0x4 s.csr.llbctl := h .llbctl
    exact .inr (hllbctl.setBits 2 _ (by decide))
  | _ => exact .inl rfl

/-- NE and PS lie in TLBIDX, whatever the number of entries (R40). -/
theorem within_tlbidx_fields {s : State} {w : Word} (h : Within 0xBF000000 w) : Within (implemented s .tlbidx) w :=
  h.right _

/-- TLBSRCH writes Index and NE (R360). -/
theorem within_searchResult {s : State} (h : ReservedZero s) (hit : Option (TlbEntry × Nat)) :
    Within (implemented s .tlbidx) (searchResult s hit) := by
  have htlbidx : Within (implemented s .tlbidx) s.csr.tlbidx := h .tlbidx
  cases hit with
  | none => exact htlbidx.setBits 31 _ (within_tlbidx_fields (by decide))
  | some p =>
    have hindex : Within (implemented s .tlbidx) (setIndex s p.2 s.csr.tlbidx) :=
      (htlbidx.and_left _).or ((within_and _ _).left _)
    exact hindex.setBits 31 _ (within_tlbidx_fields (by decide))

theorem reservedZero_search {s : State} (h : ReservedZero s) (hit : Option (TlbEntry × Nat)) :
    ReservedZero (advance { s with csr := { s.csr with tlbidx := searchResult s hit } }) := by
  refine h.of_changed rfl rfl fun n => ?_
  cases n with
  | tlbidx => exact .inr (within_searchResult h hit)
  | _ => exact .inl rfl

/-- The word of a page has the bits of TLBELO (R42, R361). -/
theorem within_packPage (s : State) (g : Bool) (p : TlbPage) :
    Within (implemented s .tlbelo0) (packPage s.cfg g p) := by
  have hlow {lo n : Nat} (v : BitVec n) (hf : Within 0x7F (place lo (BitVec.allOnes n))) :
      Within (implemented s .tlbelo0) (place lo v) := ((within_place lo v).trans hf).left _
  have hppn : Within (implemented s .tlbelo0) (place 8 p.ppn &&& lowMask (s.cfg.palen - 4)) := by
    refine Within.right ((within_iff _ _).2 fun i hi => ?_) 0x7F
    simp only [BitVec.getLsbD_and, BitVec.getLsbD_not, getLsbD_place, getLsbD_lowMask 8 i (by omega),
      Bool.and_eq_true, decide_eq_true_eq, Bool.not_eq_true', decide_eq_false_iff_not] at hi ⊢
    exact ⟨hi.2, hi.1.1⟩
  exact (((((hlow (flag p.v) (by decide)).or (hlow (flag p.d) (by decide))).or (hlow p.plv (by decide))).or
    (hlow p.mat (by decide))).or (hlow (flag g) (by decide))).or hppn

/-- TLBRD writes implemented fields only (R361). -/
theorem reservedZero_readEntry {s : State} (h : ReservedZero s) (e : TlbEntry) :
    ReservedZero (advance { s with csr := readEntry s.cfg e s.csr }) := by
  have htlbidx : Within (implemented s .tlbidx) s.csr.tlbidx := h .tlbidx
  have htlbehi : Within (~~~lowMask 13) s.csr.tlbehi := h .tlbehi
  have hasid : Within 0x3FF s.csr.asid := h .asid
  have hps (v : BitVec 1) (ps : BitVec 6) :
      Within (implemented s .tlbidx) (setBits 31 v (setBits 24 ps s.csr.tlbidx)) :=
    (htlbidx.setBits 24 ps (within_tlbidx_fields (by decide))).setBits 31 v (within_tlbidx_fields (by decide))
  refine h.of_changed rfl rfl fun n => ?_
  rw [advance_csr]
  unfold readEntry
  split
  · cases n with
    | tlbidx => exact .inr (hps _ _)
    | tlbehi => exact .inr (htlbehi.setBits 13 _ (by decide))
    | tlbelo0 => exact .inr (within_packPage s _ _)
    | tlbelo1 => exact .inr (within_packPage s _ _)
    | asid => exact .inr (hasid.setBits 0 _ (by decide))
    | _ => exact .inl rfl
  · cases n with
    | tlbidx => exact .inr (hps _ _)
    | tlbehi | tlbelo0 | tlbelo1 => exact .inr (within_zero _)
    | asid => exact .inr (hasid.setBits 0 _ (by decide))
    | _ => exact .inl rfl

theorem within_rwMask (s : State) (n : CsrName) : Within (implemented s n) (rwMask s n) := by
  cases n with
  | estat => exact show Within 0x7FFF0003 0x3 by decide
  | _ => exact within_self _

/-- The effect of a CSR write leaves the CSRs, once their bits are stored, the TLB, the registers and the parameters. -/
theorem csrEffect_frame {n : CsrName} {v : Word} {s t : State} (h : csrEffect n v s = .ok t) :
    t.csr = s.csr ∧ t.cfg = s.cfg ∧ t.tlb = s.tlb ∧ t.gpr = s.gpr := by
  obtain ⟨-, ⟨-, -, -, rfl⟩ | ⟨-, rfl⟩ | ⟨-, rfl⟩ | ⟨-, rfl⟩⟩ := csrEffect_ok h
  · exact ⟨rfl, rfl, rfl, rfl⟩
  · simp
  · split <;> exact ⟨rfl, rfl, rfl, rfl⟩
  · split <;> exact ⟨rfl, rfl, rfl, rfl⟩

/-- A CSR write changes no bit outside the mask of its register's RW bits (R344). -/
theorem reservedZero_csrWrite {s t : State} {num : BitVec 14} {v m : Word} (h : ReservedZero s)
    (hw : csrWrite s num v m = .ok t) : ReservedZero t := by
  rcases csrWrite_ok hw with rfl | ⟨c, -, -, he⟩
  · exact h
  · obtain ⟨hcsr, hcfg, htlb, -⟩ := csrEffect_frame he
    refine h.of_changed hcfg (congrArg _ htlb) fun n => ?_
    rw [hcsr, stored_csrStored]
    split
    · next hn =>
      subst hn
      exact .inr ((show Within _ _ from h n).mixBits v _ (((within_self _).and_left m).trans (within_rwMask s n)))
    · exact .inl rfl

/-- After a reset the unlisted fields are free, the reserved bits 0 (R460). -/
theorem reservedZero_warmReset (s : State) : ReservedZero (warmReset s) := by
  refine (reservedZero_iff _).2 fun n => ?_
  rw [warmReset_csr]
  cases n with
  | crmd => exact show Within 0x1FF 0x8 by decide
  | estat => exact (within_and _ 0x7FFF0000).trans (show Within 0x7FFF0003 0x7FFF0000 by decide)
  | tlbidx =>
    have hindex : tlbIdxBits (warmReset s) = tlbIdxBits s := by simp only [tlbIdxBits, warmReset_tlb_length]
    simp only [implemented, rwMask, hindex]
    exact within_and _ _
  | tcfg => exact (within_and _ _).and_left _
  | dmw0 | dmw1 => exact (within_and _ 0xEE000030).trans (show Within 0xEE000039 0xEE000030 by decide)
  | era | badv | save0 | save1 | save2 | save3 | tid => exact within_allOnes _
  | prmd | eentry | tlbehi | tlbelo0 | tlbelo1 | asid | pgdl | pgdh | tlbrentry => exact within_and _ _
  | euen | ecfg | llbctl | pgd | cpuid | tval | ticlr | ctag => exact within_zero _

/-! The timer. -/

/-- A tick never starts the timer (R445). -/
theorem running_of_tick {cfg : Config.Params} {c : Csrs} {t : Timer} (h : (tick cfg c t).running = true) :
    t.running = true := by
  unfold tick at h
  split at h
  · assumption
  · exact h

theorem running_of_ticks {cfg : Config.Params} {c : Csrs} {n : Nat} {t : Timer}
    (h : (ticks cfg c n t).running = true) : t.running = true := by
  induction n generalizing t with
  | zero => exact h
  | succ n ih => exact running_of_tick (ih h)

/-- A write of TCFG leaves the timer running exactly when it leaves it enabled (R445). -/
theorem loadTimer_running (s : State) : (loadTimer s).timer.running = tcfgEn s.csr := by
  unfold loadTimer
  split
  · next h => exact h.symm
  · next h => exact (Bool.eq_false_iff.mpr h).symm

theorem timerEnabled_loadTimer (s : State) : TimerEnabled (loadTimer s) :=
  fun hr => by rwa [loadTimer_running, ← loadTimer_csr s] at hr

theorem timerEnabled_of_eq {s t : State} (h : TimerEnabled s) (ht : t.timer.running = s.timer.running)
    (hc : tcfgEn t.csr = tcfgEn s.csr) : TimerEnabled t := by
  unfold TimerEnabled
  rw [ht, hc]
  exact h

/-- Only a write of TCFG changes TCFG, and it loads or stops the timer (R344, R445). -/
theorem timerEnabled_csrWrite {s t : State} {num : BitVec 14} {v m : Word} (h : TimerEnabled s)
    (hw : csrWrite s num v m = .ok t) : TimerEnabled t := by
  rcases csrWrite_ok hw with rfl | ⟨c, -, -, he⟩
  · exact h
  by_cases hc : c = .tcfg
  · subst hc
    cases he
    exact timerEnabled_loadTimer _
  · have htcfg : (csrStored s c v m).tcfg = s.csr.tcfg := by
      have := stored_csrStored s c .tcfg v m
      rwa [if_neg (Ne.symm hc)] at this
    obtain ⟨hcsr, -, -, -⟩ := csrEffect_frame he
    refine timerEnabled_of_eq h ?_ (by rw [hcsr]; simp only [tcfgEn, htcfg])
    obtain ⟨-, ⟨-, -, -, rfl⟩ | ⟨hn, -⟩ | ⟨-, rfl⟩ | ⟨-, rfl⟩⟩ := csrEffect_ok he
    · rfl
    · exact absurd hn hc
    · split <;> rfl
    · split <;> rfl

/-! All of them. -/

/-- What every part of a step keeps. -/
structure KeepsInvariants (s t : State) : Prop where
  reserved : ReservedZero s → ReservedZero t
  zero : ZeroSlot s → ZeroSlot t
  timer : TimerEnabled s → TimerEnabled t
  tlb : t.tlb.length = s.tlb.length
  cfg : t.cfg = s.cfg

theorem KeepsInvariants.trans {s t u : State} (h : KeepsInvariants s t) (k : KeepsInvariants t u) :
    KeepsInvariants s u :=
  ⟨fun w => k.reserved (h.reserved w), fun w => k.zero (h.zero w), fun w => k.timer (h.timer w), k.tlb.trans h.tlb,
    k.cfg.trans h.cfg⟩

theorem Ordinary.keepsInvariants {s t : State} (h : Ordinary s t) : KeepsInvariants s t where
  reserved w := reservedZero_of_csr_eq w h.cfg (congrArg _ h.tlb) h.csr
  zero w := h.zero.trans w
  timer w := timerEnabled_of_eq w (by rw [h.timer]) (by rw [h.csr])
  tlb := congrArg _ h.tlb
  cfg := h.cfg

theorem keepsInvariants_enter (e : Exc) (s : State) : KeepsInvariants s (enter e s) where
  reserved w := reservedZero_enter w e
  zero := id
  timer := id
  tlb := rfl
  cfg := rfl

theorem keepsInvariants_csrWrite {s t : State} {num : BitVec 14} {v m : Word} (h : csrWrite s num v m = .ok t) :
    KeepsInvariants s t := by
  have hframe : t.cfg = s.cfg ∧ t.tlb = s.tlb ∧ t.gpr = s.gpr := by
    rcases csrWrite_ok h with rfl | ⟨c, -, -, he⟩
    · exact ⟨rfl, rfl, rfl⟩
    · exact (csrEffect_frame he).2
  obtain ⟨hcfg, htlb, hgpr⟩ := hframe
  exact ⟨fun w => reservedZero_csrWrite w h, fun w => by unfold ZeroSlot; rw [hgpr]; exact w,
    fun w => timerEnabled_csrWrite w h, congrArg _ htlb, hcfg⟩

theorem keepsInvariants_setTlb {s : State} {l : List TlbEntry} (h : l.length = s.tlb.length) :
    KeepsInvariants s { s with tlb := l } :=
  ⟨fun w => reservedZero_of_csr_eq w rfl h rfl, id, id, h, rfl⟩

theorem readEntry_tcfg (cfg : Config.Params) (e : TlbEntry) (c : Csrs) : (readEntry cfg e c).tcfg = c.tcfg := by
  unfold readEntry
  split <;> rfl

theorem PrivilegedEffect.keepsInvariants {s t : State} (h : PrivilegedEffect s t) : KeepsInvariants s t := by
  cases h with
  | csrWrite read write finish =>
    exact (read.keepsInvariants.trans (keepsInvariants_csrWrite write)).trans finish.keepsInvariants
  | search hit => exact ⟨fun w => reservedZero_search w hit, id, id, rfl, rfl⟩
  | readEntry e =>
    exact ⟨fun w => reservedZero_readEntry w e, id,
      fun w => timerEnabled_of_eq w rfl (congrArg (bit 0) (readEntry_tcfg s.cfg e s.csr)), rfl, rfl⟩
  | setTlb draw l length =>
    exact (draw.keepsInvariants.trans (keepsInvariants_setTlb length)).trans (ordinary_advance _).keepsInvariants
  | ertn => exact ⟨reservedZero_exceptionReturn, id, id, rfl, rfl⟩
  | idle => exact ⟨id, id, id, rfl, rfl⟩

theorem keepsInvariants_exec {i : Instr} {s t : State} (h : exec i s = .next t) : KeepsInvariants s t := by
  cases exec_effect h with
  | ordinary ho => exact ho.keepsInvariants
  | exception e => exact keepsInvariants_enter e s
  | privileged _ hp => exact hp.keepsInvariants

/-- The environment reaches the timer by ticks, and nothing else of the invariants (R450). -/
theorem keepsInvariants_environment (s : State) : KeepsInvariants s (environment s) := by
  obtain ⟨m, b, hw, ip, k, d, ev, he, -⟩ := environment_spec s
  rw [he]
  exact ⟨id, id, fun w hr => w (running_of_ticks hr), rfl, rfl⟩

theorem keepsInvariants_warmReset (s : State) : KeepsInvariants s (warmReset s) where
  reserved _ := reservedZero_warmReset s
  zero _ := warmReset_gpr_zero s
  timer _ hr := by rw [warmReset_running] at hr; cases hr
  tlb := warmReset_tlb_length s
  cfg := warmReset_cfg s

/-- The state an instruction starts in: the environment has acted, and the core waits no longer (R450). -/
theorem keepsInvariants_start (s : State) (d : Nat) :
    KeepsInvariants s { environment s with idle := false, draws := d } :=
  (keepsInvariants_environment s).trans ⟨id, id, id, rfl, rfl⟩

theorem keepsInvariants_step {s t : State} (h : step s = .next t) : KeepsInvariants s t := by
  rcases step_cases h with ⟨-, rfl⟩ | rfl | ⟨d, ⟨e, rfl⟩ | ⟨i, -, hx⟩⟩
  · exact (keepsInvariants_environment s).trans (keepsInvariants_warmReset _)
  · exact keepsInvariants_environment s
  · exact (keepsInvariants_start s d).trans (keepsInvariants_enter e _)
  · exact (keepsInvariants_start s d).trans (keepsInvariants_exec hx)

/-- Settles O8: each part of a step writes only implemented bits. -/
theorem stepKeepsReservedBitsZero : Obligations.StepKeepsReservedBitsZero :=
  fun _ _ h hs => (keepsInvariants_step hs).reserved h

/-- Settles O9. -/
theorem stepKeepsZeroSlotTimerAndSizes : Obligations.StepKeepsZeroSlotTimerAndSizes := by
  intro s t hs
  obtain ⟨-, hzero, htimer, htlb, hcfg⟩ := keepsInvariants_step hs
  exact ⟨hzero, htimer, htlb, hcfg⟩

end Sys2Proof.Machine
end

section
/-! PROOFS. The state after reset (R65, R460, R461). -/

namespace Sys2Proof.Machine

open Sys2Proof

/-- No stored part of a CSR has a reserved bit after reset: CRMD holds DA, the others 0. -/
theorem reservedZero_reset : ReservedZero State.reset := by
  refine (reservedZero_iff _).2 fun n => ?_
  cases n with
  | crmd => exact show Within 0x1FF 0x8 by decide
  | _ => exact within_zero _

/-- Settles O10. -/
theorem resetMeetsInvariants : Obligations.ResetMeetsInvariants := by
  refine ⟨reset_mem_wf, ?_, ?_, reservedZero_reset, ?_, ?_⟩
  · exact show risingFrom none ([] : List (Nat × StaleFlags)) = true from rfl
  · exact .inl (show crmdPlv Csrs.reset = 0 by decide)
  · exact show (State.reset.gpr)[0] = 0 by decide
  · exact fun h => absurd h (show ¬ false = true by decide)

/-- The fetch after reset: in direct mode the PC is its own physical address, of type DATF = 0 (R121, R140). -/
theorem resolve_reset : resolve State.reset State.reset.pc .fetch = .ok (0x1C000000, 0) := by
  have hdirect : directMode State.reset.csr = true := by decide
  refine (resolve_ok_iff _ _ _ _).2 ⟨userRangeError_direct _ _ hdirect, ?_, .inl rfl⟩
  rw [translate_direct _ _ _ hdirect]
  decide

/-- Settles O59. -/
theorem resetValues : Obligations.ResetValues := by
  refine ⟨rfl, ?level, ?ie, ?da, ?pg, ?datf, ?datm, ?fpuen, ?lie, ?is, ?timerEnable, rfl, ?klo, ?dmw0Plv0, ?dmw0Plv3,
    ?dmw1Plv0, ?dmw1Plv3, rfl, rfl, rfl, readReg_zero _, resolve_reset⟩
  all_goals decide

end Sys2Proof.Machine
end

section
/-! PROOFS. The CSRs as software sees them: their numbers, what they read as, what a write stores (R30 to R57). -/

namespace Sys2Proof.Machine

open Sys2Proof

/-- A number is in no row of a table exactly when it is none of the table's numbers. -/
theorem lookupCsr_eq_none_iff (n : BitVec 14) (l : List (BitVec 14 × CsrName)) :
    lookupCsr n l = none ↔ n ∉ l.map Prod.fst := by
  induction l with
  | nil => simp [lookupCsr]
  | cons p l ih =>
    simp only [lookupCsr, List.map_cons, List.mem_cons, not_or]
    split
    · next h => simp [h]
    · next h => simp [h, ih]

/-- A CSR number is one of the numbers of R31. -/
theorem csrOf_eq_none_iff (n : BitVec 14) :
    csrOf n = none ↔ n.toNat ∉ (csrTable.map Prod.fst).map BitVec.toNat := by
  rw [csrOf, lookupCsr_eq_none_iff, List.mem_map_of_injective BitVec.toNat_injective]

/-- Settles O44: the table has the thirty rows of R31, and no number twice. -/
theorem csrNumbers : Obligations.CsrNumbers := by
  intro n
  exact ⟨csrOf_eq_none_iff n, rfl, rfl, rfl, rfl, rfl, rfl, rfl, rfl, rfl, rfl, rfl, rfl, rfl, rfl, rfl, rfl, rfl, rfl,
    rfl, rfl, rfl, rfl, rfl, rfl, rfl, rfl, rfl, rfl, rfl, rfl⟩

/-! What a CSR reads as. -/

/-- Masking with a field's bits keeps the field and clears the rest. -/
theorem and_place_allOnes (lo n : Nat) (w : Word) :
    w &&& place lo (BitVec.allOnes n) = place lo (bits lo n w) := by
  refine BitVec.eq_of_getLsbD_eq fun i hi => ?_
  simp only [BitVec.getLsbD_and, getLsbD_place, getLsbD_bits, BitVec.getLsbD_allOnes]
  by_cases h : i < lo
  · simp [h]
  · simp [h, hi, show lo + (i - lo) = i by omega, Bool.and_comm]

/-- The word of ESTAT: EsubCode and Ecode stored, IS from the lines, the timer and the two software bits (R36). -/
theorem csrValue_estat (s : State) : csrValue s .estat =
    0#1 ++ bits 16 15 s.csr.estat ++ 0#3 ++ BitVec.ofBool s.ipi ++ BitVec.ofBool s.timer.pending ++ 0#1 ++ s.hwi ++
      bits 0 2 s.csr.estat := by
  have hmask : (0x7FFF0003 : Word) = place 0 (BitVec.allOnes 2) ||| place 16 (BitVec.allOnes 15) := by decide
  rw [csrValue, hmask, BitVec.and_or_distrib_left, and_place_allOnes, and_place_allOnes]
  refine BitVec.eq_of_getLsbD_eq fun i hi => ?_
  simp only [estatIs, flag, BitVec.getLsbD_or, getLsbD_place, BitVec.getLsbD_append, getLsbD_bits, BitVec.getLsbD_zero,
    BitVec.getLsbD_ofBool]
  grind

/-- The word of ASID: ASIDBITS is 10 (R43). -/
theorem csrValue_asid (s : State) : csrValue s .asid = 0#8 ++ 10#8 ++ 0#6 ++ bits 0 10 s.csr.asid := by
  have hmask : (0x3FF : Word) = place 0 (BitVec.allOnes 10) := by decide
  have hbits : (0x000A0000 : Word) = place 16 (10#8) := by decide
  rw [csrValue, hmask, hbits, and_place_allOnes]
  refine BitVec.eq_of_getLsbD_eq fun i hi => ?_
  simp only [BitVec.getLsbD_or, getLsbD_place, BitVec.getLsbD_append, getLsbD_bits, BitVec.getLsbD_zero]
  grind

/-- The word of LLBCTL: KLO, and LLbit as ROLLB (R53). -/
theorem csrValue_llbctl (s : State) : csrValue s .llbctl =
    0#29 ++ BitVec.ofBool (bit 2 s.csr.llbctl) ++ 0#1 ++ BitVec.ofBool s.llbit := by
  have hmask : (0x4 : Word) = place 2 (BitVec.allOnes 1) := by decide
  have hrollb : truth s.llbit = place 0 (BitVec.ofBool s.llbit) := by cases s.llbit <;> decide
  rw [csrValue, hmask, hrollb, and_place_allOnes]
  refine BitVec.eq_of_getLsbD_eq fun i hi => ?_
  simp only [bit, BitVec.getLsbD_or, getLsbD_place, BitVec.getLsbD_append, getLsbD_bits, BitVec.getLsbD_zero,
    BitVec.getLsbD_ofBool]
  grind

/-- The word of CPUID (R47). -/
theorem csrValue_cpuid (s : State) : csrValue s .cpuid = 0#23 ++ s.cfg.coreId :=
  BitVec.setWidth_eq_append (x := s.cfg.coreId) (w := 32) (by decide)

/-- With reserved bits 0, a register to which the hardware adds nothing at a read reads as it is stored (R30). -/
theorem csrValue_of_reservedZero {s : State} (h : ReservedZero s) {n : CsrName}
    (hn : n ∉ [CsrName.estat, .asid, .pgd, .cpuid, .tval, .llbctl]) : csrValue s n = stored s.csr n := by
  have hm := and_mask_of_reserved _ _ (h n)
  cases n with
  | estat | asid | pgd | cpuid | tval | llbctl => exact absurd (by decide) hn
  | _ => exact hm

/-- PGD is PGDH or PGDL, by the top bit of BADV (R46). -/
theorem csrValue_pgd {s : State} (h : ReservedZero s) :
    csrValue s .pgd = if bit 31 s.csr.badv then s.csr.pgdh else s.csr.pgdl := by
  simp only [csrValue]
  split
  · exact and_mask_of_reserved _ _ (h .pgdh)
  · exact and_mask_of_reserved _ _ (h .pgdl)

/-- TVAL is the count, of TIMER_BITS bits (R51). -/
theorem csrValue_tval_toNat (s : State) (h : s.cfg.timerBits ≤ 32) :
    (csrValue s .tval).toNat = s.timer.count.toNat % 2 ^ s.cfg.timerBits := by
  have hpow : 2 ^ s.cfg.timerBits ≤ 2 ^ 32 := Nat.pow_le_pow_right (by omega) h
  have hmask : (lowMask s.cfg.timerBits).toNat = 2 ^ s.cfg.timerBits - 1 := by
    rw [lowMask, BitVec.toNat_ofNat]
    exact Nat.mod_eq_of_lt (by omega)
  rw [csrValue, BitVec.toNat_and, hmask, Nat.and_two_pow_sub_one_eq_mod]

/-- Settles O45. -/
theorem csrReadValues : Obligations.CsrReadValues := by
  refine ⟨fun s => ?_, fun s h ht => ⟨fun n hn => ?_, csrValue_pgd h, csrValue_tval_toNat s ht⟩, fun c => ?_⟩
  · exact ⟨csrValue_estat s, csrValue_asid s, csrValue_llbctl s, csrValue_cpuid s, BitVec.and_zero⟩
  · refine csrValue_of_reservedZero h ?_
    revert n
    decide
  · exact ⟨rfl, rfl, rfl, rfl, rfl, rfl, rfl, rfl, rfl, rfl, rfl⟩

/-! What a CSR write stores. -/

/-- A bit of `lowMask n`, for n above 32 too. -/
theorem bit_lowMask (n : Nat) {i : Nat} (hi : i < 32) : bit i (lowMask n) = decide (i < n) := by
  rw [bit, lowMask, BitVec.getLsbD_ofNat, Nat.testBit_two_pow_sub_one, decide_eq_true hi, Bool.true_and]

/-- `tlbIdxBits` is the least number of bits that number the TLB entries (R40). -/
theorem tlbIdxBits_le_iff (s : State) (n : Nat) : tlbIdxBits s ≤ n ↔ s.tlb.length ≤ 2 ^ n := by
  have hpos : 0 < 2 ^ n := Nat.two_pow_pos n
  unfold tlbIdxBits
  split
  · omega
  · have := Nat.log2_lt (n := s.tlb.length - 1) (k := n) (by omega)
    omega

theorem tlbIdxBits_eq {s : State} {n : Nat} (h : s.tlb.length ≤ 2 ^ n) (hmin : ∀ m, m < n → 2 ^ m < s.tlb.length) :
    tlbIdxBits s = n := by
  have hle := (tlbIdxBits_le_iff s n).2 h
  by_contra hne
  have hlt := hmin (tlbIdxBits s) (by omega)
  have := (tlbIdxBits_le_iff s (tlbIdxBits s)).1 (Nat.le_refl _)
  omega

/-- The RW bits of TLBIDX: Index, PS and NE (R40). -/
theorem bit_rwMask_tlbidx (s : State) {i : Nat} (hi : i < 32) :
    bit i (rwMask s .tlbidx) = true ↔ i < tlbIdxBits s ∨ (24 ≤ i ∧ i ≤ 29) ∨ i = 31 := by
  have hmask : (0xBF000000 : Word) = place 24 (BitVec.allOnes 6) ||| place 31 (BitVec.allOnes 1) := by decide
  have hlow := bit_lowMask (tlbIdxBits s) hi
  unfold bit at hlow ⊢
  simp only [rwMask, hmask, BitVec.getLsbD_or, hlow, getLsbD_place, BitVec.getLsbD_allOnes, Bool.or_eq_true,
    Bool.and_eq_true, Bool.not_eq_true', decide_eq_true_eq, decide_eq_false_iff_not]
  omega

/-- The RW bits of TLBELO: V to G, and the PPN of PALEN - 12 bits (R42). -/
theorem bit_tlbelo_mask (p : Nat) {i : Nat} (hi : i < 32) :
    bit i (0x7F ||| (lowMask (p - 4) &&& ~~~lowMask 8)) = true ↔ i ≤ 6 ∨ (8 ≤ i ∧ i + 5 ≤ p) := by
  have hmask : (0x7F : Word) = place 0 (BitVec.allOnes 7) := by decide
  have hppn := bit_lowMask (p - 4) hi
  have hlow := bit_lowMask 8 hi
  unfold bit at hppn hlow ⊢
  simp only [hmask, BitVec.getLsbD_or, BitVec.getLsbD_and, BitVec.getLsbD_not, hppn, hlow, getLsbD_place,
    BitVec.getLsbD_allOnes, Bool.or_eq_true, Bool.and_eq_true, Bool.not_eq_true', decide_eq_true_eq,
    decide_eq_false_iff_not]
  omega

/-- A register whose write only stores bits (R344). -/
theorem csrEffect_of_plain {c : CsrName} (h : c ∉ [CsrName.crmd, .tcfg, .ticlr, .llbctl]) (v : Word) (s : State) :
    csrEffect c v s = .ok s := by
  cases c with
  | crmd | tcfg | ticlr | llbctl => exact absurd (by decide) h
  | _ => rfl

/-- The effect of CSRWR or CSRXCHG on a register whose write only stores bits: the bits under `k` take those of `x[rd]`,
and the old value goes into `rd` (R341, R342, R344). -/
def SwapEffect (s : State) (rd : Reg) (c : CsrName) (k : Word) (t : State) : Prop :=
  (∃ d g, t = { s with csr := d, gpr := g, pc := s.pc + 4 }) ∧
  (∀ q, stored t.csr q = if q = c then (stored s.csr c &&& ~~~k) ||| (readReg s rd &&& k) else stored s.csr q) ∧
  ∀ r, readReg t r = if r = 0 then 0 else if r = rd then csrValue s c else readReg s r

theorem csrSwap_effect (rd : Reg) {num : BitVec 14} {c : CsrName} {m : Word} (s : State) (hc : csrOf num = some c)
    (hm : m ≠ 0) (hn : c ∉ [CsrName.crmd, .tcfg, .ticlr, .llbctl, .ctag, .tval]) :
    Ends (csrSwap rd num m s) (SwapEffect s rd c (rwMask s c &&& m)) := by
  simp only [List.mem_cons, List.not_mem_nil, or_false, not_or] at hn
  obtain ⟨hcrmd, htcfg, hticlr, hllbctl, hctag, htval⟩ := hn
  have hfree : readsFree s c = false := readsFree_false hctag fun h => absurd h htval
  have hplain : c ∉ [CsrName.crmd, .tcfg, .ticlr, .llbctl] := by
    simp [hcrmd, htcfg, hticlr, hllbctl]
  have hwrite := (csrWrite_known s num c (readReg s rd) m hc hm).trans (csrEffect_of_plain hplain _ _)
  obtain ⟨g, hfinish, hreg⟩ := finish_spec { s with csr := csrStored s c (readReg s rd) m } rd (csrValue s c)
  rw [csrSwap_known rd num c m s _ hc hfree hwrite]
  exact ⟨_, hfinish, ⟨_, g, rfl⟩, fun q => stored_csrStored s c q _ m, hreg⟩

/-- Settles O47. -/
theorem csrWriteResult : Obligations.CsrWriteResult := by
  refine ⟨fun s => ⟨rfl, fun i hi => ⟨fun n h hmin => ?_, bit_tlbelo_mask _ hi, bit_tlbelo_mask _ hi, ?_⟩⟩,
    fun rd rj num c s hp hc hn => ⟨?csrwr, fun hm => ?csrxchg⟩⟩
  · rw [← tlbIdxBits_eq h hmin]
    exact bit_rwMask_tlbidx s hi
  · rw [rwMask, bit_lowMask _ hi, decide_eq_true_eq]
  case csrwr =>
    have heffect := csrSwap_effect rd s hc (m := BitVec.allOnes 32) (by decide) hn
    rw [BitVec.and_allOnes] at heffect
    rw [exec_csrwr, execCsrwr, privileged_kernel _ _ hp]
    exact heffect
  case csrxchg =>
    rw [exec_csrxchg, execCsrxchg, privileged_kernel _ _ hp]
    exact csrSwap_effect rd s hc hm hn

end Sys2Proof.Machine
end

section
/-! PROOFS. Memory and the `stale` record keep their canonical form through every step (the model's own data convention,
notes/assumptions/5.md). -/

namespace Sys2Proof.Machine

open Sys2Proof

/-- What every part of a step keeps of the data. -/
structure KeepsDataForm (s t : State) : Prop where
  mem : MemoryCanonical s → MemoryCanonical t
  stale : StaleOrdered s → StaleOrdered t

theorem KeepsDataForm.trans {s t u : State} (h : KeepsDataForm s t) (k : KeepsDataForm t u) : KeepsDataForm s u :=
  ⟨fun w => k.mem (h.mem w), fun w => k.stale (h.stale w)⟩

theorem keepsDataForm_of_eq {s t : State} (hm : t.mem = s.mem) (hs : t.stale = s.stale) : KeepsDataForm s t where
  mem w := by rwa [MemoryCanonical, hm]
  stale w := by rwa [StaleOrdered, hs]

theorem Ordinary.keepsDataForm {s t : State} (h : Ordinary s t) : KeepsDataForm s t := ⟨h.mem, h.stale⟩

theorem keepsDataForm_enter (e : Exc) (s : State) : KeepsDataForm s (enter e s) := keepsDataForm_of_eq rfl rfl

/-- No CSR write reaches memory or the `stale` record (R344). -/
theorem csrEffect_data {n : CsrName} {v : Word} {s t : State} (h : csrEffect n v s = .ok t) :
    t.mem = s.mem ∧ t.stale = s.stale := by
  obtain ⟨-, ⟨-, -, -, rfl⟩ | ⟨-, rfl⟩ | ⟨-, rfl⟩ | ⟨-, rfl⟩⟩ := csrEffect_ok h
  · exact ⟨rfl, rfl⟩
  · simp
  · split <;> exact ⟨rfl, rfl⟩
  · split <;> exact ⟨rfl, rfl⟩

theorem keepsDataForm_csrWrite {s t : State} {num : BitVec 14} {v m : Word} (h : csrWrite s num v m = .ok t) :
    KeepsDataForm s t := by
  rcases csrWrite_ok h with rfl | ⟨c, -, -, he⟩
  · exact keepsDataForm_of_eq rfl rfl
  · obtain ⟨hm, hs⟩ := csrEffect_data he
    exact keepsDataForm_of_eq hm hs

/-- A privileged instruction reaches memory and the record only as an ordinary one does. -/
theorem PrivilegedEffect.keepsDataForm {s t : State} (h : PrivilegedEffect s t) : KeepsDataForm s t := by
  cases h with
  | csrWrite read write finish =>
    exact (read.keepsDataForm.trans (keepsDataForm_csrWrite write)).trans finish.keepsDataForm
  | setTlb draw l length => exact draw.keepsDataForm.trans (keepsDataForm_of_eq rfl rfl)
  | search | readEntry | ertn | idle => exact keepsDataForm_of_eq rfl rfl

theorem keepsDataForm_exec {i : Instr} {s t : State} (h : exec i s = .next t) : KeepsDataForm s t := by
  cases exec_effect h with
  | ordinary ho => exact ho.keepsDataForm
  | exception e => exact keepsDataForm_enter e s
  | privileged _ hp => exact hp.keepsDataForm

/-- The environment stores bytes of other agents and leaves the record (R156, R354). -/
theorem keepsDataForm_environment (s : State) : KeepsDataForm s (environment s) := by
  obtain ⟨m, b, hw, ip, k, d, ev, he, hm⟩ := environment_spec s
  rw [he]
  exact ⟨hm, id⟩

/-- A reset keeps memory and empties the record (R460). -/
theorem keepsDataForm_warmReset (s : State) : KeepsDataForm s (warmReset s) where
  mem w := by rwa [MemoryCanonical, warmReset_mem]
  stale _ := by rw [StaleOrdered, warmReset_stale]; rfl

theorem keepsDataForm_start (s : State) (d : Nat) :
    KeepsDataForm s { environment s with idle := false, draws := d } :=
  (keepsDataForm_environment s).trans (keepsDataForm_of_eq rfl rfl)

theorem keepsDataForm_step {s t : State} (h : step s = .next t) : KeepsDataForm s t := by
  rcases step_cases h with ⟨-, rfl⟩ | rfl | ⟨d, ⟨e, rfl⟩ | ⟨i, -, hx⟩⟩
  · exact (keepsDataForm_environment s).trans (keepsDataForm_warmReset _)
  · exact keepsDataForm_environment s
  · exact (keepsDataForm_start s d).trans (keepsDataForm_enter e _)
  · exact (keepsDataForm_start s d).trans (keepsDataForm_exec hx)

/-- Settles O6: every part of a step keeps the form of memory and the order of the record. -/
theorem stepKeepsMemoryCanonical : Obligations.StepKeepsMemoryCanonical := by
  intro s t hm hs h
  obtain ⟨mem, stale⟩ := keepsDataForm_step h
  exact ⟨mem hm, stale hs⟩

end Sys2Proof.Machine
end

section
/-! PROOFS. Address translation: the modes, the windows, the TLB and the pages (20_memory.md R112, R120 to R129). -/

namespace Sys2Proof.Machine

open Sys2Proof

theorem directMode_iff (c : Csrs) : directMode c = true ↔ crmdDa c = true ∧ crmdPg c = false := by
  simp [directMode]

theorem mappedMode_iff (c : Csrs) : mappedMode c = true ↔ crmdDa c = false ∧ crmdPg c = true := by
  simp [mappedMode]

/-- The value of a bit slice. -/
theorem toNat_bits (lo n : Nat) (w : Word) : (bits lo n w).toNat = w.toNat / 2 ^ lo % 2 ^ n := by
  rw [bits, BitVec.extractLsb'_toNat, Nat.shiftRight_eq_div_pow]

/-- The value of a concatenation. -/
theorem toNat_append_eq_add {m n : Nat} (x : BitVec m) (y : BitVec n) :
    (x ++ y).toNat = x.toNat * 2 ^ n + y.toNat := by
  rw [BitVec.toNat_append, ← Nat.shiftLeft_add_eq_or_of_lt y.isLt, Nat.shiftLeft_eq]

/-! Direct mode and the windows. -/

/-- A window's address is `{PSEG, va[28:0]}`, PALEN bits of it (R102, R123). -/
theorem windowAddress_eq (cfg : Config.Params) (w va : Word) :
    windowAddress cfg w va = (bits 25 3 w ++ bits 0 29 va).toNat % 2 ^ cfg.palen := by
  rw [toNat_append_eq_add, toNat_bits 0, Nat.pow_zero, Nat.div_one]
  rfl

/-- When a window takes an address (R123). -/
theorem windowHit_iff (c : Csrs) (w va : Word) :
    windowHit c w va = true ↔
      bits 29 3 va = bits 29 3 w ∧ ((crmdPlv c = 0 ∧ bit 0 w = true) ∨ (crmdPlv c = 3 ∧ bit 3 w = true)) := by
  simp [windowHit, dmwVseg, dmwPlv0, dmwPlv3]

/-- The access type in direct mode: fetches take DATF, the other accesses DATM (R140). -/
theorem directMat_eq (c : Csrs) (k : Access) : directMat c k = if k = .fetch then crmdDatf c else crmdDatm c := by
  cases k <;> rfl

/-- Settles O26. -/
theorem directAndWindowTranslation : Obligations.DirectAndWindowTranslation := by
  refine fun s va k => ⟨fun hda hpg => ?direct, fun hda hpg => ⟨fun h0 => ?window0, fun h0 h1 => ?window1⟩,
    fun w => windowHit_iff s.csr w va⟩
  case direct =>
    rw [translate_direct s va k ((directMode_iff _).2 ⟨hda, hpg⟩), directMat_eq]
    rfl
  case window0 =>
    rw [translate_mapped s va k ((mappedMode_iff _).2 ⟨hda, hpg⟩), if_pos h0, windowAddress_eq]
    rfl
  case window1 =>
    rw [translate_mapped s va k ((mappedMode_iff _).2 ⟨hda, hpg⟩), if_neg (Bool.not_eq_true _ ▸ h0), if_pos h1,
      windowAddress_eq]
    rfl

/-! The TLB. -/

theorem inSpace_iff (c : Csrs) (e : TlbEntry) :
    inSpace (asidAsid c) e = true ↔ e.e = true ∧ (e.g = true ∨ e.asid = bits 0 10 c.asid) := by
  simp [inSpace, asidAsid]

theorem legalPs_iff (cfg : Config.Params) (ps : BitVec 6) : legalPs cfg ps = true ↔ ps = 12 ∨ ps = cfg.psLarge := by
  simp [legalPs]

/-- A mapped access that no window takes goes to the TLB (R120). -/
theorem translate_tlb (s : State) (va : Word) (k : Access) (hda : crmdDa s.csr = false) (hpg : crmdPg s.csr = true)
    (h0 : windowHit s.csr s.csr.dmw0 va = false) (h1 : windowHit s.csr s.csr.dmw1 va = false) :
    translate s va k = tlbTranslate s va k := by
  rw [translate_mapped s va k ((mappedMode_iff _).2 ⟨hda, hpg⟩), h0, h1]
  rfl

/-- A lookup is declined where an entry of the address space has an illegal page size (R129). -/
theorem tlbLookup_illegalSize {s : State} (va : Word) {e : TlbEntry} (he : e ∈ s.tlb)
    (hin : inSpace (asidAsid s.csr) e = true) (hps : legalPs s.cfg e.ps = false) :
    tlbLookup s va = .refuse .pageSizeIllegal := by
  have hany : s.tlb.any (illegalSize s.cfg (asidAsid s.csr)) = true :=
    List.any_eq_true.2 ⟨e, he, by rw [illegalSize, hin, hps]; rfl⟩
  rw [tlbLookup, if_pos hany]

/-- The checks on a page, in the order of R126. -/
theorem pageCheck_eq (s : State) (va : Word) (k : Access) (e : TlbEntry) :
    pageCheck s va k e =
      if (pageOf e va).v = false then .raise (pageInvalid va k)
      else if (pageOf e va).plv.toNat < (crmdPlv s.csr).toNat then .raise (.ppi va)
      else if k = .store ∧ (pageOf e va).d = false then .raise (.pme va)
      else .ok (pageAddress s.cfg e.ps.toNat (pageOf e va).ppn va, (pageOf e va).mat) := by
  simp only [pageCheck, BitVec.lt_def, Bool.not_eq_true', Bool.and_eq_true, decide_eq_true_eq]

/-- Settles O27: each answer of the lookup gives one case of the translation. -/
theorem tlbTranslation : Obligations.TlbTranslation := by
  refine ⟨inSpace_iff, legalPs_iff, fun s va k hda hpg h0 h1 => ?_⟩
  rw [translate_tlb s va k hda hpg h0 h1, tlbTranslate]
  refine ⟨?illegal, fun hlegal => ⟨fun hmiss => ?refill, ?double, ?hit⟩⟩
  case illegal =>
    rintro ⟨e, he, hin, hps⟩
    rw [tlbLookup_illegalSize va he hin hps, andThen_refuse]
  case refill => rw [tlbLookup_none hlegal hmiss, andThen_ok]
  case double =>
    intro m n e f hne hm hn he hev hf hfv
    rw [tlbLookup_many hlegal hne hm hn he hev hf hfv, andThen_fault]
  case hit =>
    intro n e hn he hev hunique
    rw [tlbLookup_one hlegal hn he hev hunique, andThen_ok]
    exact pageCheck_eq s va k e

/-! The pages. -/

/-- An entry matches when its VPPN and the address agree above bit PS (R127). -/
theorem vppnMatches_iff {e : TlbEntry} {ps : Nat} (h : e.ps.toNat = ps) (va : Word) :
    vppnMatches e va = true ↔ e.vppn.toNat * 2 ^ 13 / 2 ^ (ps + 1) = va.toNat / 2 ^ (ps + 1) := by
  rw [vppnMatches, h, beq_iff_eq, ← BitVec.toNat_inj, BitVec.toNat_ushiftRight, BitVec.toNat_ushiftRight,
    Nat.shiftRight_eq_div_pow, Nat.shiftRight_eq_div_pow, toNat_append_eq_add, BitVec.toNat_zero, Nat.add_zero]

/-- The 4 KB page: VPPN is the whole of `va[31:13]` (R127). -/
theorem vppnMatches_4KB {e : TlbEntry} (h : e.ps = 12) (va : Word) :
    vppnMatches e va = true ↔ e.vppn = bits 13 19 va := by
  have hvppn := e.vppn.isLt
  have hva := va.isLt
  rw [vppnMatches_iff (ps := 12) (by rw [h]; rfl), ← BitVec.toNat_inj, toNat_bits]
  omega

/-- The 4 MB page: the top nine bits of VPPN are `va[31:23]` (R127). -/
theorem vppnMatches_4MB {e : TlbEntry} (h : e.ps = 22) (va : Word) :
    vppnMatches e va = true ↔ e.vppn.extractLsb' 10 9 = bits 23 9 va := by
  have hvppn := e.vppn.isLt
  have hva := va.isLt
  rw [vppnMatches_iff (ps := 22) (by rw [h]; rfl), ← BitVec.toNat_inj, toNat_bits, BitVec.extractLsb'_toNat,
    Nat.shiftRight_eq_div_pow]
  omega

/-- The address in a 4 KB page: the whole PPN, then the offset (R126). -/
theorem pageAddress_4KB (cfg : Config.Params) (ppn : BitVec 24) (va : Word) :
    pageAddress cfg 12 ppn va = (ppn ++ bits 0 12 va).toNat % 2 ^ cfg.palen := by
  rw [toNat_append_eq_add, toNat_bits, Nat.pow_zero, Nat.div_one]
  simp only [pageAddress, physWidth, Nat.sub_self, Nat.pow_zero, Nat.div_one]

/-- The address in a 4 MB page: the PPN above bit 10, then the offset (R126). -/
theorem pageAddress_4MB (cfg : Config.Params) (ppn : BitVec 24) (va : Word) :
    pageAddress cfg 22 ppn va = (ppn.extractLsb' 10 14 ++ bits 0 22 va).toNat % 2 ^ cfg.palen := by
  have hppn : ppn.toNat / 2 ^ 10 % 2 ^ 14 = ppn.toNat / 2 ^ 10 := Nat.mod_eq_of_lt (by have := ppn.isLt; omega)
  rw [toNat_append_eq_add, toNat_bits, Nat.pow_zero, Nat.div_one, BitVec.extractLsb'_toNat,
    Nat.shiftRight_eq_div_pow, hppn]
  rfl

/-- Settles O28. -/
theorem pageGeometry : Obligations.PageGeometry := by
  refine fun e cfg va ppn => ⟨fun h => ⟨vppnMatches_4KB h va, ?_⟩, fun h => ⟨vppnMatches_4MB h va, ?_⟩,
    pageAddress_4KB cfg ppn va, pageAddress_4MB cfg ppn va⟩
  · rw [pageOf, h]; rfl
  · rw [pageOf, h]; rfl

/-! The address error, and what an access resolves to. -/

/-- When an address error is found (R112). -/
theorem userRangeError_iff (s : State) (va : Word) :
    userRangeError s va = true ↔
      s.cfg.adeOnPlv3High = true ∧ crmdDa s.csr = false ∧ crmdPg s.csr = true ∧ crmdPlv s.csr = 3 ∧
        bit 31 va = true ∧ windowHit s.csr s.csr.dmw0 va = false ∧ windowHit s.csr s.csr.dmw1 va = false := by
  simp [userRangeError, mappedMode, and_assoc]

/-- An access with an address error raises it (R112). -/
theorem resolve_rangeError {s : State} {va : Word} (h : userRangeError s va = true) (k : Access) :
    resolve s va k = .raise (addressError va k) := by
  rw [resolve, if_pos h]

/-- Every other access is translated, and its type checked (R120, R142). -/
theorem resolve_inRange {s : State} {va : Word} (h : userRangeError s va = false) (k : Access) :
    resolve s va k = (translate s va k).andThen fun p =>
      if p.2 = matSuc ∨ p.2 = matCc then .ok p else .refuse .accessTypeReserved := by
  rw [resolve, h]
  rfl

/-- Settles O29. -/
theorem highHalfAtUserLevel : Obligations.HighHalfAtUserLevel := by
  refine fun s va => ⟨userRangeError_iff s va, fun h => ?_, fun h k => ?_⟩
  · exact ⟨resolve_rangeError h .fetch, resolve_rangeError h .load, resolve_rangeError h .store⟩
  · rw [resolve_inRange h]
    cases translate s va k <;> rfl

end Sys2Proof.Machine
end

section
/-! PROOFS. Self-modifying code: a store becomes visible to fetches by write-back, invalidation and IBAR (20_memory.md
R161, R162; 47_privileged.md R354). -/

namespace Sys2Proof.Machine

open Sys2Proof

/-- What an address resolves to depends on the parameters, the CSRs and the TLB alone. -/
theorem resolve_congr {s t : State} (hcfg : t.cfg = s.cfg) (hcsr : t.csr = s.csr) (htlb : t.tlb = s.tlb) (va : Word)
    (k : Access) : resolve t va k = resolve s va k := by
  cases s
  cases t
  subst hcfg hcsr htlb
  rfl

/-- A Hit CACOP on the L1 instruction cache (0x10) or the L1 data cache (0x11), its address resolved (R350, R354). -/
theorem cacop_hit_next {code : BitVec 5} (hcode : code = 0x10 ∨ code = 0x11) {rj : Reg} {i : BitVec 12}
    {s t : State} {p : Nat × BitVec 2} (h : exec (.cacop code rj i) s = .next t)
    (hp : resolve s (readReg s rj + i.signExtend 32) .load = .ok p) :
    t = advance { s with stale := hitStale (cacopCache code) p s } := by
  have hop : cacopOp code = 2 := by rcases hcode with rfl | rfl <;> decide
  have hdef : cacopDefined code = true := by rcases hcode with rfl | rfl <;> decide
  have haddr : address12 s rj i = readReg s rj + i.signExtend 32 := rfl
  simpa [execCacop, cacopOperate, hitOperation, hop, hdef, haddr, hp] using h.symm

/-- IBAR with hint 0 (R311, R354). -/
theorem ibar_zero_next {s t : State} (h : exec (.ibar 0) s = .next t) :
    t = advance { s with stale := clearNeedIbar s.stale } := by
  simpa [execIbar, barrier] using h.symm

/-- Every byte of an aligned word lies in the word's line, for lines of 4 bytes or more (R354). -/
theorem lineOf_word {cfg : Config.Params} {pa k : Nat} (hl : 2 ≤ cfg.lineOffset) (hpa : pa % 4 = 0) (hk : k < 4) :
    lineOf cfg (pa + k) = lineOf cfg pa := by
  have hsplit (n : Nat) : n / 2 ^ cfg.lineOffset = n / 4 / 2 ^ (cfg.lineOffset - 2) := by
    rw [Nat.div_div_eq_div_mul, show 4 = 2 ^ 2 from rfl, ← Nat.pow_add, Nat.add_sub_cancel' hl]
  rw [lineOf, lineOf, hsplit, hsplit, show (pa + k) / 4 = pa / 4 by omega]

/-- The write-back, the invalidation and IBAR clear the three flags of a byte on the line, and it leaves the record
(R354). -/
theorem lookup_after_maintenance {cfg : Config.Params} {st : List (Nat × StaleFlags)} {pa qa : Nat}
    (hst : risingFrom none st = true) (hline : lineOf cfg pa = lineOf cfg qa) :
    lookupKey pa (clearNeedIbar (clearNeedInv cfg qa (clearNeedWb cfg qa st))) = none := by
  rw [lookup_clearNeedIbar _ _ (rising_clearNeedInv _ _ _ (rising_clearNeedWb _ _ _ hst)), lookup_clearNeedInv,
    lookup_clearNeedWb]
  cases lookupKey pa st with
  | none => rfl
  | some f => simp [hline]

/-- A byte that is not in the record is not stale for a fetch (R354). -/
theorem staleForFetch_of_lookup {s : State} {pa : Nat} (h : lookupKey pa s.stale = none) (mat : BitVec 2) :
    staleForFetch s mat pa = false := by
  rw [staleForFetch, h]

/-- Settles O35: the two Hit operations find the address the store went to, and their clearing empties the record of
the word's bytes. -/
theorem codeStoreBecomesVisible : Obligations.CodeStoreBecomesVisible := by
  intro rj i v s a b c pa qa hst hl hpa hline hres ha hb hc k mat hk
  have hresStore : resolve (storeAt s pa 1 .word v) (readReg (storeAt s pa 1 .word v) rj + i.signExtend 32) .load
      = .ok (qa, 1) := (resolve_congr rfl rfl rfl _ _).trans hres
  obtain rfl := cacop_hit_next (.inr rfl) ha hresStore
  obtain rfl := cacop_hit_next (.inl rfl) hb ((resolve_congr rfl rfl rfl _ _).trans hresStore)
  obtain rfl := ibar_zero_next hc
  have hclean := lookup_after_maintenance (rising_markStale 1 s.stale pa 4 hst)
    ((lineOf_word hl hpa hk).trans (show lineOf s.cfg pa = lineOf s.cfg qa from hline.symm))
  exact ⟨hclean, staleForFetch_of_lookup hclean mat⟩

end Sys2Proof.Machine
end

section
/-! PROOFS. The fetch and how it ends a step (20_memory.md R107, R111, R162; 30_encoding.md R177, R180). -/

namespace Sys2Proof.Machine

open Sys2Proof

/-- The environment writes no CSR (R450). -/
theorem environment_csr (s : State) : (environment s).csr = s.csr := by
  obtain ⟨m, b, hw, ip, k, d, ev, he, -⟩ := environment_spec s
  rw [he]

/-- Without a reset, a step in no defined translation mode is refused (R125). -/
theorem step_undefinedMode {s : State} (hr : resetAsserted s = false) (hm : crmdDa s.csr = crmdPg s.csr) :
    step s = .refused .addressModeUndefined := by
  have hboundary : boundary s = .done (.refused .addressModeUndefined) := by
    simp only [boundary, hr, environment_csr, hm, Bool.false_eq_true, if_false, if_true]
  rw [step, hboundary]

theorem step_of_quiet {s : State} (h : Quiet s) : step s = runInstr s := by
  rw [step, boundary_of_quiet h]

/-! A fetch that gives no word ends the step as it ended itself. -/

theorem runInstr_of_fetch_raise {s : State} {e : Exc} (h : fetchWord s = .raise e) :
    runInstr s = .next (enter e s) := by
  rw [runInstr, fetchInstr, h, andThen_raise, settle_raise]

theorem runInstr_of_fetch_fault {s : State} {f : Fault} (h : fetchWord s = .fault f) : runInstr s = .fault f := by
  rw [runInstr, fetchInstr, h, andThen_fault, settle_fault]

theorem runInstr_of_fetch_refuse {s : State} {r : Refusal} (h : fetchWord s = .refuse r) :
    runInstr s = .refused r := by
  rw [runInstr, fetchInstr, h, andThen_refuse, settle_refuse]

/-- A word that matches no row raises INE (R177). -/
theorem runInstr_of_undefinedWord {s : State} {w : Word} (h : fetchWord s = .ok w)
    (hd : decode w = .error .undefinedWord) : runInstr s = .next (enter .ine s) := by
  rw [runInstr, fetchInstr, h, andThen_ok, decodeWord, hd, settle_raise]

/-- A non-canonical counter read is declined (R180). -/
theorem runInstr_of_nonCanonicalCounter {s : State} {w : Word} (h : fetchWord s = .ok w)
    (hd : decode w = .error .nonCanonicalCounter) : runInstr s = .refused .counterReadNonCanonical := by
  rw [runInstr, fetchInstr, h, andThen_ok, decodeWord, hd, settle_refuse]

/-! The stages of the fetch, in order (R111). -/

theorem aligned_word_iff (va : Word) : aligned .word va = true ↔ va.toNat % 4 = 0 :=
  decide_eq_true_iff

theorem fetchWord_misaligned {s : State} (h : s.pc.toNat % 4 ≠ 0) : fetchWord s = .raise (.adef s.pc) := by
  rw [fetchWord, if_neg (by rwa [aligned_word_iff])]

theorem fetchWord_raise {s : State} {e : Exc} (ha : s.pc.toNat % 4 = 0) (hr : resolve s s.pc .fetch = .raise e) :
    fetchWord s = .raise e := by
  rw [fetchWord, if_pos ((aligned_word_iff _).2 ha), hr, andThen_raise]

/-- Some byte of a range is stale for a fetch (R354). -/
theorem anyStaleForFetch_iff (s : State) (mat : BitVec 2) (pa n : Nat) :
    anyStaleForFetch s mat pa n = true ↔ ∃ k, k < n ∧ staleForFetch s mat (pa + k) = true := by
  induction n generalizing pa with
  | zero => simp [anyStaleForFetch]
  | succ n ih =>
    simp only [anyStaleForFetch, Bool.or_eq_true, ih, Nat.exists_lt_succ_left, Nat.add_zero, Nat.add_assoc,
      Nat.add_comm 1]

/-- With CC, every byte in the record is stale for a fetch (R354). -/
theorem staleForFetch_cc_iff (s : State) (pa : Nat) :
    staleForFetch s 1 pa = true ↔ lookupKey pa s.stale ≠ none := by
  rw [staleForFetch]
  cases lookupKey pa s.stale <;> simp [matCc]

/-- With SUC, a byte that waits for a write-back or an IBAR is stale for a fetch (R354). -/
theorem staleForFetch_suc_iff (s : State) (pa : Nat) :
    staleForFetch s 0 pa = true ↔
      ∃ f, lookupKey pa s.stale = some f ∧ (f.needWb = true ∨ f.needIbar = true) := by
  rw [staleForFetch]
  cases lookupKey pa s.stale <;> simp [matCc]

/-! The last stages, at an aligned PC whose address resolves. -/

section
variable {s : State} {pa : Nat} {mat : BitVec 2}

theorem fetchWord_noMemory (ha : s.pc.toNat % 4 = 0) (hr : resolve s s.pc .fetch = .ok (pa, mat))
    (h : ∃ k, k < 4 ∧ physExists s.cfg (pa + k) = false) : fetchWord s = .refuse .noPhysicalMemory := by
  have hrange : physRange s.cfg pa 4 = false := by
    obtain ⟨k, hk, hno⟩ := h
    refine Bool.eq_false_iff.2 fun hall => ?_
    rw [(physRange_iff _ _ _).1 hall k hk] at hno
    cases hno
  rw [fetchWord, if_pos ((aligned_word_iff _).2 ha), hr, andThen_ok, hrange]
  rfl

theorem fetchWord_stale (ha : s.pc.toNat % 4 = 0) (hr : resolve s s.pc .fetch = .ok (pa, mat))
    (hmem : ∀ k, k < 4 → physExists s.cfg (pa + k) = true)
    (h : ∃ k, k < 4 ∧ staleForFetch s mat (pa + k) = true) : fetchWord s = .fault .staleFetch := by
  rw [fetchWord, if_pos ((aligned_word_iff _).2 ha), hr, andThen_ok, (physRange_iff _ _ _).2 hmem,
    (anyStaleForFetch_iff _ _ _ _).2 h]
  rfl

theorem fetchWord_ok (ha : s.pc.toNat % 4 = 0) (hr : resolve s s.pc .fetch = .ok (pa, mat))
    (hmem : ∀ k, k < 4 → physExists s.cfg (pa + k) = true)
    (h : ∀ k, k < 4 → staleForFetch s mat (pa + k) = false) :
    fetchWord s = .ok
      (readByte s.mem (pa + 3) ++ readByte s.mem (pa + 2) ++ readByte s.mem (pa + 1) ++ readByte s.mem pa) := by
  have hfresh : anyStaleForFetch s mat pa 4 = false := by
    refine Bool.eq_false_iff.2 fun hany => ?_
    obtain ⟨k, hk, hstale⟩ := (anyStaleForFetch_iff _ _ _ _).1 hany
    rw [h k hk] at hstale
    cases hstale
  rw [fetchWord, if_pos ((aligned_word_iff _).2 ha), hr, andThen_ok, (physRange_iff _ _ _).2 hmem, hfresh, readLE_word]
  rfl

end

/-- Settles O5. -/
theorem fetchOutcomes : Obligations.FetchOutcomes := by
  refine ⟨fun s => step_undefinedMode, fun s hq => ?_⟩
  rw [step_of_quiet hq]
  refine ⟨fun hmis => runInstr_of_fetch_raise (fetchWord_misaligned hmis),
    fun ha e hr => runInstr_of_fetch_raise (fetchWord_raise ha hr),
    fun ha pa mat hr => ⟨fun hno => runInstr_of_fetch_refuse (fetchWord_noMemory ha hr hno),
      fun hmem => ⟨?staleCc, ?staleSuc, fun hcc hsuc => fetchWord_ok ha hr hmem fun k hk => ?fresh⟩⟩,
    fun w hw => ⟨runInstr_of_undefinedWord hw, runInstr_of_nonCanonicalCounter hw⟩⟩
  case staleCc =>
    rintro rfl ⟨k, hk, hin⟩
    exact runInstr_of_fetch_fault (fetchWord_stale ha hr hmem ⟨k, hk, (staleForFetch_cc_iff s _).2 hin⟩)
  case staleSuc =>
    rintro rfl ⟨k, f, hk, hf⟩
    exact runInstr_of_fetch_fault (fetchWord_stale ha hr hmem ⟨k, hk, (staleForFetch_suc_iff s _).2 ⟨f, hf⟩⟩)
  case fresh =>
    obtain ⟨-, -, hmat | hmat⟩ := (resolve_ok_iff _ _ _ _).1 hr
    · obtain rfl : mat = 0 := hmat
      refine Bool.eq_false_iff.2 fun hstale => ?_
      obtain ⟨f, hf, hflag⟩ := (staleForFetch_suc_iff s _).1 hstale
      obtain ⟨hwb, hibar⟩ := hsuc rfl k f hk hf
      simp [hwb, hibar] at hflag
    · obtain rfl : mat = 1 := hmat
      exact staleForFetch_of_lookup (hcc rfl k hk) 1

end Sys2Proof.Machine
end

section
/-! PROOFS. The decoder and the encoder undo each other (30_encoding.md R172 to R180; 46_float.md R331). The decoder's nine
tables are read as nine functions of an opcode's length, each the one before it and then one table more: a row that a
format's opcode chooses is the row of every word that begins with that opcode, and what holds of the words of every row of
every table holds of every word that decodes. -/

namespace Sys2Proof

/-! The tables, one after another. -/

/-- The row of an n-bit opcode: that of its first m bits where they have one, else the one in the table of n-bit opcodes. -/
def rowThen {m n : Nat} (shorter : BitVec m → Option Rest) (t : List (BitVec n × Rest)) (op : BitVec n) : Option Rest :=
  (shorter (op.extractLsb' (n - m) m)).or (lookupOp op t)

/-- The row the first 6 bits of a word choose. -/
def row6 (op : BitVec 6) : Option Rest := lookupOp op table6
/-- The row the first 7 bits of a word choose. -/
def row7 : BitVec 7 → Option Rest := rowThen row6 table7
/-- The row the first 8 bits of a word choose. -/
def row8 : BitVec 8 → Option Rest := rowThen row7 table8
/-- The row the first 10 bits of a word choose. -/
def row10 : BitVec 10 → Option Rest := rowThen row8 table10
/-- The row the first 12 bits of a word choose. -/
def row12 : BitVec 12 → Option Rest := rowThen row10 table12
/-- The row the first 14 bits of a word choose. -/
def row14 : BitVec 14 → Option Rest := rowThen row12 table14
/-- The row the first 17 bits of a word choose. -/
def row17 : BitVec 17 → Option Rest := rowThen row14 table17
/-- The row the first 22 bits of a word choose. -/
def row22 : BitVec 22 → Option Rest := rowThen row17 table22
/-- The row a word chooses. -/
def row32 : BitVec 32 → Option Rest := rowThen row22 table32

/-- A slice of a slice is a slice. -/
theorem extractLsb'_bits (lo n l m : Nat) (w : Word) (h : l + m ≤ n) :
    (bits lo n w).extractLsb' l m = bits (lo + l) m w := by
  apply BitVec.eq_of_getLsbD_eq
  intro i hi
  rw [BitVec.getLsbD_extractLsb', getLsbD_bits, getLsbD_bits, decide_eq_true (by omega : l + i < n), Bool.true_and,
    Nat.add_assoc]

/-- The rows of a word's first n bits, by the rows of its first m bits and the table of n-bit opcodes. -/
theorem rowThen_bits {m n : Nat} (shorter : BitVec m → Option Rest) (t : List (BitVec n × Rest)) (w : Word)
    (hm : m ≤ n := by omega) (hn : n ≤ 32 := by omega) :
    rowThen shorter t (bits (32 - n) n w) = (shorter (bits (32 - m) m w)).or (lookupOp (bits (32 - n) n w) t) := by
  rw [rowThen, extractLsb'_bits _ _ _ _ _ (by omega), show 32 - n + (n - m) = 32 - m by omega]

/-- The decoder reads a word by the row it chooses (R175). -/
theorem decode_eq_row32 (w : Word) : decode w = (row32 (bits 0 32 w)).elim (.error .undefinedWord) fun r => r w := by
  have h : row32 (bits 0 32 w) =
      ((((((((lookupOp (bits 26 6 w) table6).or (lookupOp (bits 25 7 w) table7)).or
        (lookupOp (bits 24 8 w) table8)).or (lookupOp (bits 22 10 w) table10)).or
        (lookupOp (bits 20 12 w) table12)).or (lookupOp (bits 18 14 w) table14)).or
        (lookupOp (bits 15 17 w) table17)).or (lookupOp (bits 10 22 w) table22)).or
        (lookupOp (bits 0 32 w) table32) := by
    rw [row32, rowThen_bits row22 table32 w, row22, rowThen_bits row17 table22 w, row17, rowThen_bits row14 table17 w,
      row14, rowThen_bits row12 table14 w, row12, rowThen_bits row10 table12 w, row10, rowThen_bits row8 table10 w,
      row8, rowThen_bits row7 table8 w, row7, rowThen_bits row6 table7 w, row6]
  rw [h]
  unfold decode
  repeat' split
  all_goals simp only [*, Option.none_or, Option.some_or, Option.elim_some, Option.elim_none]

/-! A word that begins with an opcode that has a row is read by that row. -/

/-- A row is not lost when one table more is read. -/
theorem rowThen_of_shorter {m n : Nat} {shorter : BitVec m → Option Rest} {t : List (BitVec n × Rest)} {w : Word}
    {r : Rest} (h : shorter (bits (32 - m) m w) = some r) (hm : m ≤ n := by omega) (hn : n ≤ 32 := by omega) :
    rowThen shorter t (bits (32 - n) n w) = some r := by
  rw [rowThen_bits _ _ _, h, Option.some_or]

section
variable {w : Word} {r : Rest}

theorem decode_of_row32 (h : row32 (bits 0 32 w) = some r) : decode w = r w := by
  rw [decode_eq_row32, h, Option.elim_some]

theorem decode_of_row22 (h : row22 (bits 10 22 w) = some r) : decode w = r w :=
  decode_of_row32 (rowThen_of_shorter h)

theorem decode_of_row17 (h : row17 (bits 15 17 w) = some r) : decode w = r w :=
  decode_of_row22 (rowThen_of_shorter h)

theorem decode_of_row14 (h : row14 (bits 18 14 w) = some r) : decode w = r w :=
  decode_of_row17 (rowThen_of_shorter h)

theorem decode_of_row12 (h : row12 (bits 20 12 w) = some r) : decode w = r w :=
  decode_of_row14 (rowThen_of_shorter h)

theorem decode_of_row10 (h : row10 (bits 22 10 w) = some r) : decode w = r w :=
  decode_of_row12 (rowThen_of_shorter h)

theorem decode_of_row8 (h : row8 (bits 24 8 w) = some r) : decode w = r w :=
  decode_of_row10 (rowThen_of_shorter h)

theorem decode_of_row7 (h : row7 (bits 25 7 w) = some r) : decode w = r w :=
  decode_of_row8 (rowThen_of_shorter h)

theorem decode_of_row6 (h : row6 (bits 26 6 w) = some r) : decode w = r w :=
  decode_of_row7 (rowThen_of_shorter h)

end

/-! Decoding an encoded word, format by format: the row its opcode chooses reads its operands back (R172, R173, R331). -/

section
variable {rd rj rk ra : BitVec 5}

theorem decode_enc3R {op : BitVec 17} {f : BitVec 5 → BitVec 5 → BitVec 5 → Instr}
    (h : row17 op = some fun w => .ok (f (fieldRd w) (fieldRj w) (fieldRk w))) :
    decode (enc3R op rk rj rd) = .ok (f rd rj rk) := by
  have hop : bits 15 17 (enc3R op rk rj rd) = op := by simp [enc3R_op]
  rw [decode_of_row17 (by rwa [hop])]
  simp [fieldRd, fieldRj, fieldRk]

theorem decode_encI15 {op : BitVec 17} {c : BitVec 15} {f : BitVec 15 → Instr}
    (h : row17 op = some fun w => .ok (f (fieldI15 w))) : decode (encI15 op c) = .ok (f c) := by
  have hop : bits 15 17 (encI15 op c) = op := by simp [encI15_op]
  rw [decode_of_row17 (by rwa [hop])]
  simp [fieldI15]

theorem decode_enc2R {op : BitVec 22} {f : BitVec 5 → BitVec 5 → Instr}
    (h : row22 op = some fun w => .ok (f (fieldRd w) (fieldRj w))) : decode (enc2R op rj rd) = .ok (f rd rj) := by
  have hop : bits 10 22 (enc2R op rj rd) = op := by simp [enc2R_op]
  rw [decode_of_row22 (by rwa [hop])]
  simp [fieldRd, fieldRj]

theorem decode_enc2RI12 {op : BitVec 10} {i : BitVec 12} {f : BitVec 5 → BitVec 5 → BitVec 12 → Instr}
    (h : row10 op = some fun w => .ok (f (fieldRd w) (fieldRj w) (fieldI12 w))) :
    decode (enc2RI12 op i rj rd) = .ok (f rd rj i) := by
  have hop : bits 22 10 (enc2RI12 op i rj rd) = op := by simp [enc2RI12_op]
  rw [decode_of_row10 (by rwa [hop])]
  simp [fieldRd, fieldRj, fieldI12]

theorem decode_enc2RI14 {op : BitVec 8} {i : BitVec 14} {f : BitVec 5 → BitVec 5 → BitVec 14 → Instr}
    (h : row8 op = some fun w => .ok (f (fieldRd w) (fieldRj w) (fieldI14 w))) :
    decode (enc2RI14 op i rj rd) = .ok (f rd rj i) := by
  have hop : bits 24 8 (enc2RI14 op i rj rd) = op := by simp [enc2RI14_op]
  rw [decode_of_row8 (by rwa [hop])]
  simp [fieldRd, fieldRj, fieldI14]

theorem decode_enc1RI20 {op : BitVec 7} {i : BitVec 20} {f : BitVec 5 → BitVec 20 → Instr}
    (h : row7 op = some fun w => .ok (f (fieldRd w) (fieldI20 w))) : decode (enc1RI20 op i rd) = .ok (f rd i) := by
  have hop : bits 25 7 (enc1RI20 op i rd) = op := by simp [enc1RI20_op]
  rw [decode_of_row7 (by rwa [hop])]
  simp [fieldRd, fieldI20]

theorem decode_enc2RI16 {op : BitVec 6} {i : BitVec 16} {f : BitVec 5 → BitVec 5 → BitVec 16 → Instr}
    (h : row6 op = some fun w => .ok (f (fieldRd w) (fieldRj w) (fieldI16 w))) :
    decode (enc2RI16 op i rj rd) = .ok (f rd rj i) := by
  have hop : bits 26 6 (enc2RI16 op i rj rd) = op := by simp [enc2RI16_op]
  rw [decode_of_row6 (by rwa [hop])]
  simp [fieldRd, fieldRj, fieldI16]

theorem decode_encI26 {op : BitVec 6} {i : BitVec 26} {f : BitVec 26 → Instr}
    (h : row6 op = some fun w => .ok (f (fieldI26 w))) : decode (encI26 op i) = .ok (f i) := by
  have hop : bits 26 6 (encI26 op i) = op := by simp [encI26_op]
  rw [decode_of_row6 (by rwa [hop])]
  simp

theorem decode_enc4R {op : BitVec 12} {f : BitVec 5 → BitVec 5 → BitVec 5 → BitVec 5 → Instr}
    (h : row12 op = some fun w => .ok (f (fieldRd w) (fieldRj w) (fieldRk w) (fieldRa w))) :
    decode (enc4R op ra rk rj rd) = .ok (f rd rj rk ra) := by
  have hop : bits 20 12 (enc4R op ra rk rj rd) = op := by simp [enc4R_op]
  rw [decode_of_row12 (by rwa [hop])]
  simp [fieldRd, fieldRj, fieldRk, fieldRa]

theorem decode_encFsel {op : BitVec 14} {ca : BitVec 3} {f : BitVec 5 → BitVec 5 → BitVec 5 → BitVec 3 → Instr}
    (h : row14 op = some fun w => .ok (f (fieldRd w) (fieldRj w) (fieldRk w) (fieldCa w))) :
    decode (encFsel op ca rk rj rd) = .ok (f rd rj rk ca) := by
  have hop : bits 18 14 (encFsel op ca rk rj rd) = op := by simp [encFsel_op]
  rw [decode_of_row14 (by rwa [hop])]
  simp [fieldRd, fieldRj, fieldRk, fieldCa]

end

/-! The opcodes that stand for more than one instruction: the counter reads, the CSR instructions, BCEQZ and BCNEZ. -/

/-- The counter reads stand in the row of 17 zero bits. -/
theorem decode_counter {op : BitVec 22} (h : op.extractLsb' 5 17 = 0#17) (rj rd : BitVec 5) :
    decode (enc2R op rj rd) = decodeCounter (enc2R op rj rd) := by
  have hop : bits 15 17 (enc2R op rj rd) = 0#17 := by rw [enc2R_op op rj rd 15 17 (by omega) (by omega), h]
  exact decode_of_row17 (by rw [hop]; rfl)

theorem decode_rdcntid (rj : BitVec 5) : decode (enc2R 0x18#22 rj 0) = .ok (.rdcntid rj) := by
  rw [decode_counter rfl]
  simp [decodeCounter, fieldRd, fieldRj, enc2R_op]

theorem decode_rdcntvlW {rd : BitVec 5} (h : rd ≠ 0) : decode (enc2R 0x18#22 0 rd) = .ok (.rdcntvlW rd) := by
  rw [decode_counter rfl]
  simpa [decodeCounter, fieldRd, fieldRj, enc2R_op] using h

theorem decode_rdcntvhW (rd : BitVec 5) : decode (enc2R 0x19#22 0 rd) = .ok (.rdcntvhW rd) := by
  rw [decode_counter rfl]
  simp [decodeCounter, fieldRd, fieldRj, enc2R_op]

/-- A counter read that names two registers other than r0 is non-canonical (R180). -/
theorem decode_counter_nonCanonical {rj rd : BitVec 5} (hj : rj ≠ 0) (hd : rd ≠ 0) :
    decode (enc2R 0x18#22 rj rd) = .error .nonCanonicalCounter := by
  have hop : bits 10 22 (enc2R 0x18#22 rj rd) = 0x18#22 := by simp [enc2R_op]
  rw [decode_counter rfl, decodeCounter, if_pos hop, fieldRd, enc2R_rd, if_neg hd, fieldRj, enc2R_rj, if_neg hj]

theorem decode_csr (num : BitVec 14) (rj rd : BitVec 5) :
    decode (enc2RI14 0x4#8 num rj rd) =
      .ok (if rj = 0 then .csrrd rd num else if rj = 1 then .csrwr rd num else .csrxchg rd rj num) := by
  have hop : bits 24 8 (enc2RI14 0x4#8 num rj rd) = 0x4#8 := by simp [enc2RI14_op]
  rw [decode_of_row8 (r := decodeCsr) (by rw [hop]; rfl)]
  simp only [decodeCsr, fieldRd, fieldRj, fieldI14, enc2RI14_rd, enc2RI14_rj, enc2RI14_i]
  split_ifs <;> rfl

theorem decode_floatBranch (sel : BitVec 2) (cj : BitVec 3) (i : BitVec 21) :
    decode (encFloatBranch 0x12#6 sel cj i) =
      if sel = 0 then .ok (.bceqz cj i) else if sel = 1 then .ok (.bcnez cj i) else .error .undefinedWord := by
  have hop : bits 26 6 (encFloatBranch 0x12#6 sel cj i) = 0x12#6 := by simp [encFloatBranch_op]
  rw [decode_of_row6 (r := decodeFloatBranch) (by rw [hop]; rfl)]
  simp [decodeFloatBranch]

/-- Settles O3, by the format of the instruction: its opcode chooses its row (`rfl` looks it up in the tables), and the row
reads its operands back. -/
theorem decodeOfEncode : Obligations.DecodeOfEncode := by
  intro i hwf
  cases i with
  | rdcntid => exact decode_rdcntid _
  | rdcntvlW rd =>
    have hrd : rd ≠ 0 := by simpa [Instr.wellFormed] using hwf
    exact decode_rdcntvlW hrd
  | rdcntvhW => exact decode_rdcntvhW _
  | csrrd | csrwr => exact decode_csr _ _ _
  | csrxchg rd rj num =>
    obtain ⟨h0, h1⟩ : rj ≠ 0 ∧ rj ≠ 1 := by simpa [Instr.wellFormed] using hwf
    exact (decode_csr num rj rd).trans (by rw [if_neg h0, if_neg h1])
  | bceqz | bcnez => exact decode_floatBranch _ _ _
  | tlbsrch | tlbrd | tlbwr | tlbfill | ertn => exact decode_of_row32 (r := fun _ => .ok _) rfl
  | addW | subW | slt | sltu | norR | andR | orR | xorR | sllW | srlW | sraW | mulW | mulhW | mulhWu | divW | modW | divWu
  | modWu | slliW | srliW | sraiW | invtlb | faddS | faddD | fsubS | fsubD | fmulS | fmulD | fdivS | fdivD | fmaxS | fmaxD
  | fminS | fminD | fmaxaS | fmaxaD | fminaS | fminaD | fcopysignS | fcopysignD => exact decode_enc3R rfl
  | breakI | syscallI | idle | dbar | ibar => exact decode_encI15 rfl
  | fabsS | fabsD | fnegS | fnegD | fclassS | fclassD | fsqrtS | fsqrtD | frecipS | frecipD | frsqrtS | frsqrtD | fmovS
  | fmovD | movgr2frW | movgr2frhW | movfr2grS | movfrh2grS | movgr2fcsr | movfcsr2gr | movfr2cf | movcf2fr | movgr2cf
  | movcf2gr | fcvtSD | fcvtDS | ftintrmWS | ftintrmWD | ftintrpWS | ftintrpWD | ftintrzWS | ftintrzWD | ftintrneWS
  | ftintrneWD | ftintWS | ftintWD | ffintSW | ffintDW => exact decode_enc2R rfl
  | slti | sltui | addiW | andi | ori | xori | cacop | ldB | ldH | ldW | stB | stH | stW | ldBu | ldHu | preld | fldS | fstS
  | fldD | fstD => exact decode_enc2RI12 rfl
  | llW | scW => exact decode_enc2RI14 rfl
  | lu12iW | pcaddu12i => exact decode_enc1RI20 rfl
  | jirl => exact decode_enc2RI16 rfl
  | beq rj rd offs | bne rj rd offs | blt rj rd offs | bge rj rd offs | bltu rj rd offs | bgeu rj rd offs =>
    apply decode_enc2RI16 (rd := rd) (rj := rj) (i := offs)
    rfl
  | b | bl => exact decode_encI26 rfl
  | fmaddS | fmaddD | fmsubS | fmsubD | fnmaddS | fnmaddD | fnmsubS | fnmsubD => exact decode_enc4R rfl
  | fcmpCondS cond cd fj fk | fcmpCondD cond cd fj fk =>
    apply decode_enc4R (rd := cd) (rj := fj) (rk := fk) (ra := cond)
    rfl
  | fsel => exact decode_encFsel rfl

/-! What every row of every table keeps: a word it reads is the word of the instruction it answers. -/

/-- Every word of n-bit opcode `op` that the row `r` reads is the word of the well-formed instruction it answers. -/
def RowSound {n : Nat} (op : BitVec n) (r : Rest) : Prop :=
  ∀ (w : Word) (i : Instr), bits (32 - n) n w = op → r w = .ok i → encode i = w ∧ i.wellFormed = true

theorem RowSound.of_ok {n : Nat} {op : BitVec n} {f : Word → Instr}
    (henc : ∀ w, bits (32 - n) n w = op → encode (f w) = w) (hwf : ∀ w, (f w).wellFormed = true) : RowSound op fun w => .ok (f w) := by
  rintro w _ hop ⟨⟩
  exact ⟨henc w hop, hwf w⟩

section
variable {w : Word}

theorem enc3R_of_op {op : BitVec 17} (h : bits 15 17 w = op) : enc3R op (fieldRk w) (fieldRj w) (fieldRd w) = w :=
  h ▸ enc3R_fields w

theorem encI15_of_op {op : BitVec 17} (h : bits 15 17 w = op) : encI15 op (fieldI15 w) = w :=
  h ▸ encI15_fields w

theorem enc2R_of_op {op : BitVec 22} (h : bits 10 22 w = op) : enc2R op (fieldRj w) (fieldRd w) = w :=
  h ▸ enc2R_fields w

theorem enc2RI12_of_op {op : BitVec 10} (h : bits 22 10 w = op) : enc2RI12 op (fieldI12 w) (fieldRj w) (fieldRd w) = w :=
  h ▸ enc2RI12_fields w

theorem enc2RI14_of_op {op : BitVec 8} (h : bits 24 8 w = op) : enc2RI14 op (fieldI14 w) (fieldRj w) (fieldRd w) = w :=
  h ▸ enc2RI14_fields w

theorem enc1RI20_of_op {op : BitVec 7} (h : bits 25 7 w = op) : enc1RI20 op (fieldI20 w) (fieldRd w) = w :=
  h ▸ enc1RI20_fields w

theorem enc2RI16_of_op {op : BitVec 6} (h : bits 26 6 w = op) : enc2RI16 op (fieldI16 w) (fieldRj w) (fieldRd w) = w :=
  h ▸ enc2RI16_fields w

theorem encI26_of_op {op : BitVec 6} (h : bits 26 6 w = op) : encI26 op (fieldI26 w) = w :=
  h ▸ encI26_fields w

theorem enc4R_of_op {op : BitVec 12} (h : bits 20 12 w = op) :
    enc4R op (fieldRa w) (fieldRk w) (fieldRj w) (fieldRd w) = w :=
  h ▸ enc4R_fields w

theorem encFsel_of_op {op : BitVec 14} (h : bits 18 14 w = op) :
    encFsel op (fieldCa w) (fieldRk w) (fieldRj w) (fieldRd w) = w :=
  h ▸ encFsel_fields w

theorem encFloatBranch_of_op {op : BitVec 6} {sel : BitVec 2} (h : bits 26 6 w = op) (hsel : bits 8 2 w = sel) :
    encFloatBranch op sel (fieldCj w) (fieldI21 w) = w :=
  h ▸ hsel ▸ encFloatBranch_fields w

end

theorem decodeCounter_sound : RowSound 0x0#17 decodeCounter := by
  intro w i _ h
  unfold decodeCounter at h
  split_ifs at h with hlow hrd hrj hhigh hrj <;> cases h
  · exact ⟨by simpa only [encode, hrd] using enc2R_of_op hlow, rfl⟩
  · exact ⟨by simpa only [encode, hrj] using enc2R_of_op hlow, by simpa [Instr.wellFormed] using hrd⟩
  · exact ⟨by simpa only [encode, hrj] using enc2R_of_op hhigh, rfl⟩

theorem decodeCsr_sound : RowSound 0x4#8 decodeCsr := by
  intro w i hop h
  unfold decodeCsr at h
  split_ifs at h with h0 h1 <;> cases h
  · exact ⟨by simpa only [encode, h0] using enc2RI14_of_op hop, rfl⟩
  · exact ⟨by simpa only [encode, h1] using enc2RI14_of_op hop, rfl⟩
  · exact ⟨enc2RI14_of_op hop, by simpa [Instr.wellFormed] using And.intro h0 h1⟩

theorem decodeFloatBranch_sound : RowSound 0x12#6 decodeFloatBranch := by
  intro w i hop h
  unfold decodeFloatBranch at h
  split_ifs at h with hz hnz <;> cases h
  · exact ⟨encFloatBranch_of_op hop hz, rfl⟩
  · exact ⟨encFloatBranch_of_op hop hnz, rfl⟩

/-! Every row of every table. -/

/-- Every row of a table is sound. -/
def TableSound {n : Nat} (t : List (BitVec n × Rest)) : Prop := ∀ row ∈ t, RowSound row.1 row.2

theorem tableSound_nil {n : Nat} : TableSound ([] : List (BitVec n × Rest)) := fun _ h => nomatch h

theorem tableSound_cons {n : Nat} {op : BitVec n} {r : Rest} {t : List (BitVec n × Rest)} :
    TableSound ((op, r) :: t) ↔ RowSound op r ∧ TableSound t := List.forall_mem_cons

theorem table6_sound : TableSound table6 := by
  simp only [table6, tableSound_cons, tableSound_nil, decodeFloatBranch_sound, and_true]
  and_intros
  all_goals exact .of_ok (fun w h => by simp only [encode, enc2RI16_of_op h, encI26_of_op h]) fun _ => rfl

theorem table7_sound : TableSound table7 := by
  simp only [table7, tableSound_cons, tableSound_nil, and_true]
  and_intros
  all_goals exact .of_ok (fun _ => enc1RI20_of_op) fun _ => rfl

theorem table8_sound : TableSound table8 := by
  simp only [table8, tableSound_cons, tableSound_nil, decodeCsr_sound, and_true]
  and_intros
  all_goals exact .of_ok (fun _ => enc2RI14_of_op) fun _ => rfl

theorem table10_sound : TableSound table10 := by
  simp only [table10, tableSound_cons, tableSound_nil, and_true]
  and_intros
  all_goals exact .of_ok (fun _ => enc2RI12_of_op) fun _ => rfl

theorem table12_sound : TableSound table12 := by
  simp only [table12, tableSound_cons, tableSound_nil, and_true]
  and_intros
  all_goals exact .of_ok (fun _ => enc4R_of_op) fun _ => rfl

theorem table14_sound : TableSound table14 :=
  tableSound_cons.2 ⟨.of_ok (fun _ => encFsel_of_op) fun _ => rfl, tableSound_nil⟩

theorem table17_sound : TableSound table17 := by
  simp only [table17, tableSound_cons, tableSound_nil, decodeCounter_sound, and_true]
  and_intros
  all_goals exact .of_ok (fun w h => by simp only [encode, enc3R_of_op h, encI15_of_op h]) fun _ => rfl

theorem table22_sound : TableSound table22 := by
  simp only [table22, tableSound_cons, tableSound_nil, and_true]
  and_intros
  all_goals exact .of_ok (fun _ => enc2R_of_op) fun _ => rfl

/-- A fixed word is read whole. -/
theorem bits_all (w : Word) : bits 0 32 w = w := BitVec.extractLsb'_eq_self

theorem table32_sound : TableSound table32 := by
  simp only [table32, tableSound_cons, tableSound_nil, and_true]
  and_intros
  all_goals exact .of_ok (fun w h => ((bits_all w).symm.trans h).symm) fun _ => rfl

/-! A word that decodes is read by a row of one of the tables. -/

/-- A row that a table gives for an opcode stands in the table. -/
theorem mem_of_lookupOp {n : Nat} {op : BitVec n} {t : List (BitVec n × Rest)} {r : Rest} (h : lookupOp op t = some r) :
    (op, r) ∈ t := by
  induction t with
  | nil => cases h
  | cons row t ih =>
    obtain ⟨k, r'⟩ := row
    rw [lookupOp] at h
    split at h
    next hk =>
      cases h
      rw [hk]
      exact List.mem_cons_self
    next => exact List.mem_cons_of_mem _ (ih h)

/-- Every row that the first n bits of a word can choose is sound. -/
def RowsSound {n : Nat} (rows : BitVec n → Option Rest) : Prop :=
  ∀ (op : BitVec n) (r : Rest), rows op = some r → RowSound op r

theorem lookupOp_sound {n : Nat} {t : List (BitVec n × Rest)} (h : TableSound t) : RowsSound fun op => lookupOp op t :=
  fun _ _ hop => h _ (mem_of_lookupOp hop)

theorem rowThen_sound {m n : Nat} {shorter : BitVec m → Option Rest} {t : List (BitVec n × Rest)}
    (hs : RowsSound shorter) (ht : TableSound t) (hm : m ≤ n := by omega) (hn : n ≤ 32 := by omega) : RowsSound (rowThen shorter t) := by
  rintro op r hr w i rfl hi
  rw [rowThen_bits _ _ _, Option.or_eq_some_iff] at hr
  rcases hr with hr | ⟨-, hr⟩
  · exact hs _ r hr w i rfl hi
  · exact lookupOp_sound ht _ r hr w i rfl hi

theorem row17_sound : RowsSound row17 :=
  have h8 : RowsSound row8 := rowThen_sound (rowThen_sound (lookupOp_sound table6_sound) table7_sound) table8_sound
  rowThen_sound (rowThen_sound (rowThen_sound (rowThen_sound h8 table10_sound) table12_sound) table14_sound) table17_sound

theorem row32_sound : RowsSound row32 := rowThen_sound (rowThen_sound row17_sound table22_sound) table32_sound

/-- Settles O4: the word is read by a row of a table, and every row is sound. -/
theorem encodeOfDecode : Obligations.EncodeOfDecode := by
  intro w i hdec
  rw [decode_eq_row32] at hdec
  cases hrow : row32 (bits 0 32 w) with
  | none =>
    rw [hrow] at hdec
    cases hdec
  | some r =>
    rw [hrow] at hdec
    exact row32_sound _ r hrow w i rfl hdec

/-- The word of a well-formed instruction, written out, decodes to it. -/
theorem decode_of_encode_eq {w : Word} {i : Instr} (hwf : i.wellFormed = true) (hw : encode i = w) : decode w = .ok i :=
  hw ▸ decodeOfEncode i hwf

/-- The word 0 matches no row (R177). -/
theorem decode_zero : decode 0 = .error .undefinedWord := rfl

/-- Settles O2: the encoder gives the twenty-six words; the two others the decoder reads. -/
theorem knownWordsDecode : Obligations.KnownWordsDecode := by
  unfold Obligations.KnownWordsDecode
  and_intros
  on_goal 28 => exact decode_counter_nonCanonical (rj := 5) (rd := 4) (by decide) (by decide)
  on_goal 27 => exact decode_zero
  all_goals exact decode_of_encode_eq rfl rfl

end Sys2Proof
end

section
/-! PROOFS. Integer arithmetic, comparison, logic, multiply and divide (40_int_arith.md R210 to R241). Every instruction of
the family ends by `finish`, a division by a zero divisor after one draw; what is left to prove is that the value the model
computes is the one the rule names. -/

namespace Sys2Proof.Machine

open Sys2Proof

/-! Results that are the rule's expression as it stands. -/

/-- Settles O13. -/
theorem addSubtractResult : Obligations.AddSubtractResult := by
  intro rd rj rk si12 si20 s
  and_intros
  all_goals exact finish_registerEffect s rd _

/-- Settles O15. -/
theorem logicResult : Obligations.LogicResult := by
  intro rd rj rk ui12 s
  and_intros
  all_goals exact finish_registerEffect s rd _

/-! Comparison. -/

theorem truth_decide (p : Prop) [Decidable p] : truth (decide p) = if p then 1 else 0 := by
  by_cases h : p <;> simp [truth, h]

theorem signed_immS12 (i : BitVec 12) : signed (immS12 i) = i.toInt := BitVec.toInt_signExtend_of_le (by omega)

/-- A register instruction whose result is the outcome of a comparison. -/
theorem finish_truth_registerEffect (s : State) (rd : Reg) (p : Prop) [Decidable p] :
    Ends (finish s rd (truth (decide p))) (RegisterEffect s rd (if p then 1 else 0)) :=
  truth_decide p ▸ finish_registerEffect s rd _

/-- Settles O14: SLTI compares with the value of the immediate, which its extension to a word keeps. -/
theorem compareResult : Obligations.CompareResult := by
  intro rd rj rk si12 s
  refine ⟨finish_truth_registerEffect s rd _, finish_truth_registerEffect s rd _, ?slti, finish_truth_registerEffect s rd _⟩
  case slti =>
    rw [← signed_immS12 si12]
    exact finish_truth_registerEffect s rd _

/-! Multiplication. -/

/-- The high word of a number written in 64 bits is its quotient by 2^32, modulo 2^32. -/
theorem extractLsb'_high_ofInt (x : Int) : (BitVec.ofInt 64 x).extractLsb' 32 32 = BitVec.ofInt 32 (x / 2 ^ 32) := by
  apply BitVec.eq_of_toNat_eq
  simp only [BitVec.extractLsb'_toNat, BitVec.toNat_ofInt, Nat.shiftRight_eq_div_pow]
  omega

theorem mulHighSigned_eq (a b : Word) : mulHighSigned a b = BitVec.ofInt 32 (a.toInt * b.toInt / 2 ^ 32) :=
  extractLsb'_high_ofInt _

theorem mulHighUnsigned_eq (a b : Word) : mulHighUnsigned a b = BitVec.ofNat 32 (a.toNat * b.toNat / 2 ^ 32) := by
  rw [mulHighUnsigned, ← BitVec.ofInt_natCast, extractLsb'_high_ofInt, ← BitVec.ofInt_natCast]
  rfl

theorem mul_eq_ofNat (a b : Word) : a * b = BitVec.ofNat 32 (a.toNat * b.toNat) := by
  rw [BitVec.ofNat_mul, BitVec.ofNat_toNat, BitVec.ofNat_toNat, BitVec.setWidth_eq, BitVec.setWidth_eq]

/-- Settles O16. -/
theorem multiplyResult : Obligations.MultiplyResult := by
  intro rd rj rk s
  rw [← mul_eq_ofNat, ← mulHighSigned_eq, ← mulHighUnsigned_eq]
  exact ⟨finish_registerEffect s rd _, finish_registerEffect s rd _, finish_registerEffect s rd _⟩

/-! Division. -/

theorem finishDivide_registerEffect {d : Word} (hd : d ≠ 0) (s : State) (rd : Reg) (v : Word) :
    Ends (finishDivide s rd d v) (RegisterEffect s rd v) := by
  rw [finishDivide, if_neg hd]
  exact finish_registerEffect s rd v

/-- A zero divisor gives a free word, whatever the operation (R241). -/
theorem finishDivide_zero_registerEffect {d : Word} (hd : d = 0) (s : State) (rd : Reg) (v : Word) :
    Ends (finishDivide s rd d v) (RegisterEffect (drawn s) rd (freshWord s)) := by
  rw [finishDivide, if_pos hd]
  exact finish_registerEffect (drawn s) rd (freshWord s)

section
variable {a b : Word}

theorem divOverflows_iff : divOverflows a b = true ↔ a = 0x80000000 ∧ b = 0xFFFFFFFF := by
  rw [divOverflows, Bool.and_eq_true, beq_iff_eq, beq_iff_eq]

theorem quotientSigned_of_overflow (h : a = 0x80000000 ∧ b = 0xFFFFFFFF) (cfg : Config.Params) :
    quotientSigned cfg a b = cfg.divOverflowQ := if_pos (divOverflows_iff.2 h)

theorem remainderSigned_of_overflow (h : a = 0x80000000 ∧ b = 0xFFFFFFFF) (cfg : Config.Params) :
    remainderSigned cfg a b = cfg.divOverflowR := if_pos (divOverflows_iff.2 h)

theorem quotientSigned_of_noOverflow (h : ¬ (a = 0x80000000 ∧ b = 0xFFFFFFFF)) (cfg : Config.Params) :
    quotientSigned cfg a b = BitVec.ofInt 32 (a.toInt.tdiv b.toInt) := if_neg (mt divOverflows_iff.1 h)

/-- The remainder of the truncated quotient is the truncated remainder (R234). -/
theorem remainderSigned_of_noOverflow (h : ¬ (a = 0x80000000 ∧ b = 0xFFFFFFFF)) (cfg : Config.Params) :
    remainderSigned cfg a b = BitVec.ofInt 32 (a.toInt.tmod b.toInt) := by
  rw [Int.tmod_def]
  exact if_neg (mt divOverflows_iff.1 h)

end

/-- Settles O17. -/
theorem divideResult : Obligations.DivideResult := by
  intro rd rj rk s
  refine ⟨fun hd => ⟨fun hno => ?noOverflow, fun hov => ?overflow, ?quotient, ?remainder⟩, fun hd i hi => ?zeroDivisor⟩
  case noOverflow =>
    rw [← quotientSigned_of_noOverflow hno s.cfg, ← remainderSigned_of_noOverflow hno s.cfg]
    exact ⟨finishDivide_registerEffect hd s rd _, finishDivide_registerEffect hd s rd _⟩
  case overflow =>
    rw [← quotientSigned_of_overflow hov s.cfg, ← remainderSigned_of_overflow hov s.cfg]
    exact ⟨finishDivide_registerEffect hd s rd _, finishDivide_registerEffect hd s rd _⟩
  case quotient =>
    rw [BitVec.udiv_def]
    exact finishDivide_registerEffect hd s rd _
  case remainder =>
    rw [BitVec.umod_def]
    exact finishDivide_registerEffect hd s rd _
  case zeroDivisor =>
    simp only [List.mem_cons, List.not_mem_nil, or_false] at hi
    rcases hi with rfl | rfl | rfl | rfl
    all_goals exact finishDivide_zero_registerEffect hd s rd _

/-! The law of division. -/

/-- The register that an instruction's effect names, read in the state the instruction ends in. -/
theorem readReg_of_registerEffect {o : Out} {s t : State} {rd : Reg} {v : Word} (h : Ends o (RegisterEffect s rd v))
    (hrd : rd ≠ 0) (ht : o = .next t) : readReg t rd = v := by
  obtain ⟨u, hu, -, hread⟩ := h
  cases hu.symm.trans ht
  rw [hread rd, if_neg hrd, if_pos rfl]

/-- Outside the one overflow the signed quotient fits a word. -/
theorem toInt_ofInt_tdiv {a b : Word} (h : ¬ (a = 0x80000000 ∧ b = 0xFFFFFFFF)) :
    (BitVec.ofInt 32 (a.toInt.tdiv b.toInt)).toInt = a.toInt.tdiv b.toInt := by
  rw [← BitVec.toInt_sdiv_of_ne_or_ne a b (not_and_or.1 h), BitVec.ofInt_toInt]

theorem toInt_ofInt_tmod (a b : Word) : (BitVec.ofInt 32 (a.toInt.tmod b.toInt)).toInt = a.toInt.tmod b.toInt := by
  rw [← BitVec.toInt_srem, BitVec.ofInt_toInt]

theorem natAbs_tmod_lt (a : Int) {b : Int} (hb : b ≠ 0) : (a.tmod b).natAbs < b.natAbs := by
  rw [Int.natAbs_tmod]
  exact Nat.mod_lt _ (Int.natAbs_pos.2 hb)

/-- A truncated remainder has the sign of the dividend, or is 0. -/
theorem tmod_mul_self_nonneg (a b : Int) : 0 ≤ a.tmod b * a := by
  rcases le_total 0 a with ha | ha
  · exact mul_nonneg (Int.tmod_nonneg b ha) ha
  · have hneg : 0 ≤ -(a.tmod b) := Int.neg_tmod a b ▸ Int.tmod_nonneg b (neg_nonneg.2 ha)
    exact mul_nonneg_of_nonpos_of_nonpos (neg_nonneg.1 hneg) ha

/-- Settles O18: both results are exact, so the laws of truncated division of integers carry over. -/
theorem divisionLaw : Obligations.DivisionLaw := by
  intro rd rj rk s q r hrd hd hno hq hr
  obtain ⟨hnonzero, -⟩ := divideResult rd rj rk s
  obtain ⟨hsigned, -⟩ := hnonzero hd
  obtain ⟨hdiv, hmod⟩ := hsigned hno
  have hdInt : (readReg s rk).toInt ≠ 0 := fun h => hd (BitVec.toInt_inj.1 h)
  rw [readReg_of_registerEffect hdiv hrd hq, readReg_of_registerEffect hmod hrd hr, toInt_ofInt_tdiv hno, toInt_ofInt_tmod]
  exact ⟨(Int.tdiv_mul_add_tmod _ _).symm, natAbs_tmod_lt _ hdInt, tmod_mul_self_nonneg _ _⟩

end Sys2Proof.Machine
end

section
/-! PROOFS. Shifts (41_shift.md R250 to R256). Every instruction of the family ends by `finish`; what is left to prove is
that each shift is the product or the floor quotient by a power of two, and that a register count is taken modulo 32. -/

namespace Sys2Proof.Machine

open Sys2Proof

/-- The low five bits of a register count are the count modulo 32 (R256). -/
theorem shiftCount_eq_mod (w : Word) : shiftCount w = w.toNat % 32 := by
  rw [shiftCount, bits, BitVec.extractLsb'_toNat, Nat.shiftRight_zero]

section
variable (a : Word) (n : Nat)

theorem shiftLeft_eq_ofNat_mul : a <<< n = BitVec.ofNat 32 (a.toNat * 2 ^ n) := by
  apply BitVec.eq_of_toNat_eq
  rw [BitVec.toNat_shiftLeft, Nat.shiftLeft_eq, BitVec.toNat_ofNat]

theorem ushiftRight_eq_ofNat_div : a >>> n = BitVec.ofNat 32 (a.toNat / 2 ^ n) := by
  rw [← Nat.shiftRight_eq_div_pow, ← BitVec.toNat_ushiftRight, BitVec.ofNat_toNat, BitVec.setWidth_eq]

/-- `/` on integers with a positive divisor is the floor, as R252 asks of a negative value. -/
theorem sshiftRight_eq_ofInt_div : a.sshiftRight n = BitVec.ofInt 32 (a.toInt / 2 ^ n) := by
  rw [BitVec.sshiftRight, Int.shiftRight_eq_div_pow, Int.natCast_pow, Nat.cast_ofNat]

end

/-- Settles O19: the rule's results, rewritten as the shifts that the instructions perform. -/
theorem shiftResult : Obligations.ShiftResult := by
  intro rd rj rk ui5 s
  rw [← shiftCount_eq_mod]
  simp only [← shiftLeft_eq_ofNat_mul, ← ushiftRight_eq_ofNat_div, ← sshiftRight_eq_ofInt_div]
  and_intros
  all_goals exact finish_registerEffect s rd _

end Sys2Proof.Machine
end

section
/-! PROOFS. Branches, jumps and calls (42_branch.md R260 to R270). The six conditional branches share `branchIf`, three with
the condition of the statement and three with its negation; the two linking jumps share a register write before `goto`. -/

namespace Sys2Proof.Machine

open Sys2Proof

/-! Conditional branches. -/

section
variable {c : Bool} {p : Prop} [Decidable p]

/-- A branch taken when `p` holds: the two outcomes of R260 differ in the PC alone. -/
theorem branchIf_of_iff (h : c = true ↔ p) (i : BitVec 16) (s : State) :
    branchIf c i s = .next { s with pc := s.pc + if p then (i ++ 0#2).signExtend 32 else 4 } := by
  by_cases hp : p
  · rw [branchIf, if_pos (h.2 hp), if_pos hp]
    rfl
  · rw [branchIf, if_neg (mt h.1 hp), if_neg hp]
    rfl

/-- A branch taken when `p` fails. -/
theorem branchIf_of_iff_not (h : c = true ↔ ¬ p) (i : BitVec 16) (s : State) :
    branchIf c i s = .next { s with pc := s.pc + if p then 4 else (i ++ 0#2).signExtend 32 } := by
  rw [branchIf_of_iff h, ite_not]

end

/-- Settles O20: BNE, BGE and BGEU are taken when the condition of BEQ, BLT and BLTU fails. -/
theorem conditionalBranchResult : Obligations.ConditionalBranchResult := by
  intro rj rd i s
  refine ⟨?beq, ?bne, ?blt, ?bge, ?bltu, ?bgeu⟩
  case beq => exact branchIf_of_iff beq_iff_eq i s
  case bne => exact branchIf_of_iff_not bne_iff_ne i s
  case blt => exact branchIf_of_iff decide_eq_true_iff i s
  case bge => exact branchIf_of_iff_not (decide_eq_true_iff.trans not_lt.symm) i s
  case bltu => exact branchIf_of_iff decide_eq_true_iff i s
  case bgeu => exact branchIf_of_iff_not (decide_eq_true_iff.trans not_lt.symm) i s

/-! Jumps. -/

/-- The shared end of a jump that links: the link into `rd`, then the target, which was read before. -/
theorem goto_writeReg_linkEffect (s : State) (rd : Reg) (v target : Word) :
    LinkEffect s rd v target (goto (writeReg s rd v) target) := by
  obtain ⟨g, hg⟩ := writeReg_eq s rd v
  refine ⟨⟨g, by rw [hg, goto]⟩, fun r => ?_⟩
  rw [readReg_goto, readReg_writeReg]

/-- Settles O21. -/
theorem jumpResult : Obligations.JumpResult := by
  intro rd rj i j s
  refine ⟨?b, ?bl, ?jirl⟩
  case b => exact exec_b i s
  case bl => exact ⟨_, exec_bl i s, goto_writeReg_linkEffect s 1 _ _⟩
  case jirl => exact ⟨_, exec_jirl rd rj j s, goto_writeReg_linkEffect s rd _ _⟩

end Sys2Proof.Machine
end

section
/-! PROOFS. Loads, stores, prefetch and the barriers (43_load_store.md R280 to R292; 44_atomic_barrier.md R310, R311). The
five loads share `loadInto` and the three stores `storeFrom`, each for every width; a data access is a chain of checks. -/

namespace Sys2Proof.Machine

open Sys2Proof

/-! What a store leaves in memory and in the record. -/

theorem bytesStored_writeLE {m : Memory} (h : Memory.wf m = true) (pa n : Nat) (v : Word) :
    BytesStored m (writeLE m pa n v) pa n v :=
  ⟨fun k hk => readByte_writeLE m pa n k v h hk, fun a ha => readByte_writeLE_outside m pa n a v ha⟩

theorem staleStored_markStale (st : List (Nat × StaleFlags)) (pa n : Nat) (mat : BitVec 2) :
    StaleStored st (markStale mat st pa n) pa n mat :=
  ⟨fun k hk => lookup_markStale mat st pa n k hk, fun a ha => lookup_markStale_outside mat st pa n a ha⟩

/-! A load or a store by what its access answers (R290, R291). -/

section
variable {s : State} {w : Width} {rj : Reg} {i : BitVec 12} {pa : Nat} {mat : BitVec 2} {e : Exc}

theorem loadInto_registerEffect
    (h : dataAccess s w (readReg s rj + i.signExtend 32) .load = .ok (pa, mat)) (f : Word → Word) (rd : Reg) :
    Ends (loadInto w f rd rj i s) (RegisterEffect s rd (f (readLE s.mem pa (widthBytes w)))) := by
  have hload : load s w (address12 s rj i) = .ok (readLE s.mem pa (widthBytes w)) := load_of_access h
  rw [loadInto, hload, settle_ok]
  exact finish_registerEffect s rd _

theorem storeFrom_storeEffect (hm : MemoryCanonical s)
    (h : dataAccess s w (readReg s rj + i.signExtend 32) .store = .ok (pa, mat)) (rd : Reg) :
    Ends (storeFrom w rd rj i s) (StoreEffect s pa (widthBytes w) mat (readReg s rd)) := by
  have hstore : store s w (address12 s rj i) (readReg s rd) = .ok (storeAt s pa mat w (readReg s rd)) :=
    store_of_access h
  rw [storeFrom, hstore, settle_ok]
  exact ⟨_, rfl, ⟨_, _, rfl⟩, bytesStored_writeLE hm pa _ _, staleStored_markStale s.stale pa _ mat⟩

theorem loadInto_of_raise (h : dataAccess s w (readReg s rj + i.signExtend 32) .load = .raise e)
    (f : Word → Word) (rd : Reg) : loadInto w f rd rj i s = .next (enter e s) := by
  have hload : load s w (address12 s rj i) = .raise e := (andThen_raise_iff _ _ _).2 (.inl h)
  rw [loadInto, hload, settle_raise]

theorem storeFrom_of_raise (h : dataAccess s w (readReg s rj + i.signExtend 32) .store = .raise e) (rd : Reg) :
    storeFrom w rd rj i s = .next (enter e s) := by
  have hstore : store s w (address12 s rj i) (readReg s rd) = .raise e := (andThen_raise_iff _ _ _).2 (.inl h)
  rw [storeFrom, hstore, settle_raise]

end

/-- Settles O23. -/
theorem storeResult : Obligations.StoreResult := by
  intro rd rj i s pa mat hm
  exact ⟨fun h => storeFrom_storeEffect hm h rd, fun h => storeFrom_storeEffect hm h rd,
    fun h => storeFrom_storeEffect hm h rd⟩

/-- Settles O25. -/
theorem failedAccessIsPrecise : Obligations.FailedAccessIsPrecise := by
  intro rd rj i s e
  exact ⟨fun h => ⟨loadInto_of_raise h sext8 rd, loadInto_of_raise h id rd⟩,
    fun h => ⟨loadInto_of_raise h sext16 rd, loadInto_of_raise h id rd⟩, fun h => loadInto_of_raise h id rd,
    fun h => storeFrom_of_raise h rd, fun h => storeFrom_of_raise h rd, fun h => storeFrom_of_raise h rd⟩

/-! Extension of the loaded value (R280 to R284). -/

/-- The low bits of a zero-extended value are the value. -/
theorem bits_zero_setWidth {n : Nat} (hn : n ≤ 32) (v : BitVec n) : bits 0 n (v.setWidth 32) = v := by
  rw [← BitVec.shiftLeft_zero (v.setWidth 32)]
  exact bits_place 0 v (by omega)

theorem sext8_readLE (m : Memory) (pa : Nat) : sext8 (readLE m pa 1) = (readByte m pa).signExtend 32 := by
  rw [readLE_byte, sext8, bits_zero_setWidth (by omega), sext]

theorem sext16_readLE (m : Memory) (pa : Nat) :
    sext16 (readLE m pa 2) = (readByte m (pa + 1) ++ readByte m pa).signExtend 32 := by
  rw [readLE_half, sext16]
  exact congrArg sext (bits_zero_setWidth (by omega) _)

/-- Settles O22: the rule's bytes, rewritten as the little-endian value that the load reads. -/
theorem loadResult : Obligations.LoadResult := by
  intro rd rj i s pa mat
  rw [← sext8_readLE, ← readLE_byte, ← sext16_readLE, ← readLE_half, ← readLE_word]
  exact ⟨fun h => ⟨loadInto_registerEffect h sext8 rd, loadInto_registerEffect h id rd⟩,
    fun h => ⟨loadInto_registerEffect h sext16 rd, loadInto_registerEffect h id rd⟩,
    fun h => loadInto_registerEffect h id rd⟩

/-! The checks of a data access, in order (R110, R291). -/

theorem aligned_iff (w : Width) (va : Word) : aligned w va = true ↔ va.toNat % widthBytes w = 0 :=
  decide_eq_true_iff

theorem physExists_iff (cfg : Config.Params) (a : Nat) :
    physExists cfg a = true ↔ ∃ r ∈ cfg.physMem, r.base ≤ a ∧ a < r.base + r.size := by
  simp only [physExists, List.any_eq_true, Bool.and_eq_true, decide_eq_true_eq]

/-- A range has a hole when one of its bytes does not exist (R114). -/
theorem physRange_eq_false_iff (cfg : Config.Params) (pa n : Nat) :
    physRange cfg pa n = false ↔ ∃ j, j < n ∧ physExists cfg (pa + j) = false := by
  rw [← Bool.not_eq_true, physRange_iff]
  simp only [not_forall, Bool.not_eq_true, exists_prop]

/-- A byte's flag is set when the record holds it with that flag (R354). -/
theorem needWb_staleAt_iff (s : State) (pa : Nat) :
    (staleAt s pa).needWb = true ↔ ∃ f, lookupKey pa s.stale = some f ∧ f.needWb = true := by
  rw [staleAt]
  cases lookupKey pa s.stale <;> simp

theorem addressError_eq (va : Word) (k : Access) :
    addressError va k = if k = .fetch then .adef va else .adem va := by
  cases k <;> rfl

section
variable {s : State} {w : Width} {va : Word} {k : Access}

/-- An aligned access begins as its address resolves: what stops the one stops the other. -/
theorem dataAccess_raise {e : Exc} (ha : va.toNat % widthBytes w = 0) (hr : resolve s va k = .raise e) :
    dataAccess s w va k = .raise e := by
  rw [dataAccess, if_pos ((aligned_iff w va).2 ha), hr, andThen_raise]

theorem dataAccess_refuse {r : Refusal} (ha : va.toNat % widthBytes w = 0) (hr : resolve s va k = .refuse r) :
    dataAccess s w va k = .refuse r := by
  rw [dataAccess, if_pos ((aligned_iff w va).2 ha), hr, andThen_refuse]

variable {pa : Nat} {mat : BitVec 2}

theorem resolve_reservedType (hu : userRangeError s va = false) (ht : translate s va k = .ok (pa, mat))
    (hmat : mat = 2 ∨ mat = 3) : resolve s va k = .refuse .accessTypeReserved := by
  rw [resolve_inRange hu, ht, andThen_ok]
  rcases hmat with rfl | rfl <;> rfl

theorem dataAccess_noMemory (ha : va.toNat % widthBytes w = 0) (hr : resolve s va k = .ok (pa, mat))
    (h : ∃ j, j < widthBytes w ∧ physExists s.cfg (pa + j) = false) :
    dataAccess s w va k = .refuse .noPhysicalMemory := by
  rw [dataAccess, if_pos ((aligned_iff w va).2 ha), hr, andThen_ok, (physRange_eq_false_iff _ _ _).2 h]
  rfl

theorem dataAccess_uncachedAfterCached (ha : va.toNat % widthBytes w = 0) (hr : resolve s va k = .ok (pa, 0))
    (hmem : ∀ j, j < widthBytes w → physExists s.cfg (pa + j) = true)
    (h : ∃ j f, j < widthBytes w ∧ lookupKey (pa + j) s.stale = some f ∧ f.needWb = true) :
    dataAccess s w va k = .refuse .uncachedAfterCached := by
  have hstale : anyStale s StaleFlags.needWb pa (widthBytes w) = true := by
    obtain ⟨j, f, hj, hf⟩ := h
    exact (anyStale_iff _ _ _ _).2 ⟨j, hj, (needWb_staleAt_iff s _).2 ⟨f, hf⟩⟩
  rw [dataAccess, if_pos ((aligned_iff w va).2 ha), hr, andThen_ok, (physRange_iff _ _ _).2 hmem, hstale]
  rfl

theorem dataAccess_ok (ha : va.toNat % widthBytes w = 0) (hr : resolve s va k = .ok (pa, mat))
    (hmem : ∀ j, j < widthBytes w → physExists s.cfg (pa + j) = true)
    (h : mat = 1 ∨ ∀ j f, j < widthBytes w → lookupKey (pa + j) s.stale = some f → f.needWb = false) :
    dataAccess s w va k = .ok (pa, mat) := by
  refine (dataAccess_ok_iff _ _ _ _ _).2 ⟨(aligned_iff w va).2 ha, hr, (physRange_iff _ _ _).2 hmem, ?_⟩
  rintro ⟨hsuc, hstale⟩
  rcases h with rfl | hclean
  · cases hsuc
  · obtain ⟨j, hj, hwb⟩ := (anyStale_iff _ _ _ _).1 hstale
    obtain ⟨f, hf, hset⟩ := (needWb_staleAt_iff s _).1 hwb
    exact Bool.false_ne_true ((hclean j f hj hf).symm.trans hset)

end

/-- Settles O24. -/
theorem dataAccessChecks : Obligations.DataAccessChecks := by
  refine ⟨⟨rfl, rfl, rfl⟩, physExists_iff, fun s w va k => ⟨?misaligned, ?range, ?untranslated, ?translated⟩⟩
  case misaligned => exact fun ha => dataAccess_misaligned s w va k (Bool.eq_false_iff.2 (mt (aligned_iff w va).1 ha))
  case range =>
    intro ha hu
    rw [← addressError_eq]
    exact dataAccess_raise ha (resolve_rangeError hu k)
  case untranslated =>
    intro ha hu e ht
    exact dataAccess_raise ha (by rw [resolve_inRange hu, ht, andThen_raise])
  case translated =>
    intro ha hu pa mat ht
    refine ⟨fun hmat => dataAccess_refuse ha (resolve_reservedType hu ht hmat), fun hmat => ?_⟩
    have hr : resolve s va k = .ok (pa, mat) := (resolve_ok_iff _ _ _ _).2 ⟨hu, ht, hmat⟩
    refine ⟨dataAccess_noMemory ha hr, fun hmem => ⟨?_, dataAccess_ok ha hr hmem⟩⟩
    rintro rfl
    exact dataAccess_uncachedAfterCached ha hr hmem

/-! The barriers: their hints, and what IBAR does to the flags of a byte (R310, R311, R354). -/

theorem barrier_refused {hint : BitVec 15} {rule : Config.HintRule} (hh : hint ≠ 0) (hr : rule = .refuse) (k : Out) :
    barrier rule hint k = .refused .barrierHint := if_pos ⟨hh, hr⟩

theorem barrier_accepted {hint : BitVec 15} {rule : Config.HintRule} (h : hint = 0 ∨ rule = .asZero) (k : Out) :
    barrier rule hint k = k := by
  refine if_neg ?_
  rintro ⟨hh, rfl⟩
  rcases h with rfl | h
  · exact hh rfl
  · cases h

/-- Settles O34. -/
theorem prefetchAndBarrierResult : Obligations.PrefetchAndBarrierResult := by
  intro h rj i hint s
  refine ⟨exec_preld h rj i s, fun hh hr => barrier_refused hh hr _, fun hh hr => barrier_refused hh hr _,
    fun ha => barrier_accepted ha _, fun ha => barrier_accepted ha _, fun hs a => ?flags⟩
  case flags =>
    rw [lookup_clearNeedIbar s.stale a hs]
    cases lookupKey a s.stale with
    | none => rfl
    | some f => obtain ⟨_ | _, _ | _, _⟩ := f <;> rfl

end Sys2Proof.Machine
end

section
/-! PROOFS. Load-linked and store-conditional (44_atomic_barrier.md R300 to R305). Both go through `reservedAccess`, a word
access that CC memory alone answers; an SC.W ends either in `scFail` or in the store, and LLbit says which checks come. -/

namespace Sys2Proof.Machine

open Sys2Proof

/-- The address of LL.W and SC.W in the terms of the statements (R300, R301). -/
theorem address14_eq (s : State) (rj : Reg) (i : BitVec 14) :
    address14 s rj i = readReg s rj + (i ++ 0#2).signExtend 32 := rfl

/-! The access of LL.W or SC.W by what the word access answers (R305). -/

section
variable {s : State} {va : Word} {k : Access} {pa : Nat} {e : Exc}

theorem reservedAccess_cached (h : dataAccess s .word va k = .ok (pa, 1)) : reservedAccess s va k = .ok (pa, 1) := by
  rw [reservedAccess, h, andThen_ok]
  rfl

theorem reservedAccess_uncached (h : dataAccess s .word va k = .ok (pa, 0)) :
    reservedAccess s va k = .refuse .llscNotCached := by
  rw [reservedAccess, h, andThen_ok]
  rfl

theorem reservedAccess_raise (h : dataAccess s .word va k = .raise e) : reservedAccess s va k = .raise e := by
  rw [reservedAccess, h, andThen_raise]

end

/-! What SC.W does to LLbit, and its two ends (R301, 92 D12). -/

theorem afterSc_eq (s : State) : afterSc s = { s with llbit := !s.cfg.scClearsLlbit && s.llbit } := by
  cases h : s.cfg.scClearsLlbit
  · rw [afterSc, if_neg (by simp [h])]
    rfl
  · rw [afterSc, if_pos h]
    rfl

/-- With LLbit 1 the parameter alone says what LLbit becomes. -/
theorem afterSc_of_linked {s : State} (h : s.llbit = true) :
    afterSc s = { s with llbit := !s.cfg.scClearsLlbit } := by
  rw [afterSc_eq, h, Bool.and_true]

/-- LLbit 0 stays 0, whatever the parameter says. -/
theorem afterSc_of_unlinked {s : State} (h : s.llbit = false) : afterSc s = s := by
  rw [afterSc_eq, h, Bool.and_false, ← h]

theorem scFail_of_linked {s : State} (h : s.llbit = true) (rd : Reg) :
    Ends (scFail s rd) (RegisterEffect { s with llbit := !s.cfg.scClearsLlbit } rd 0) := by
  rw [scFail, afterSc_of_linked h]
  exact finish_registerEffect _ rd 0

theorem scFail_of_unlinked {s : State} (h : s.llbit = false) (rd : Reg) :
    Ends (scFail s rd) (RegisterEffect s rd 0) := by
  rw [scFail, afterSc_of_unlinked h]
  exact finish_registerEffect s rd 0

/-- A core that compares the addresses finds another one (93 U14). -/
theorem scStore_elsewhere {s : State} {p : Nat × BitVec 2} (hcheck : s.cfg.scAddrCheck = true) (hp : p.1 ≠ s.lladdr)
    (rd : Reg) : scStore s rd p = scFail s rd := by
  rw [scStore, if_pos (by rw [hcheck, decide_eq_false hp]; rfl)]

theorem scStore_same {s : State} {p : Nat × BitVec 2} (h : s.cfg.scAddrCheck = true → p.1 = s.lladdr) (rd : Reg) :
    scStore s rd p = finish (afterSc (storeAt s p.1 p.2 .word (readReg s rd))) rd 1 := by
  rw [scStore, if_neg]
  · rfl
  · rw [Bool.and_eq_true, Bool.not_eq_true', decide_eq_false_iff_not]
    exact fun ⟨hcheck, hne⟩ => hne (h hcheck)

/-- The state a successful SC.W leaves before it writes `rd` (R301). -/
theorem afterSc_storeAt {s : State} (h : s.llbit = true) (pa : Nat) (v : Word) :
    afterSc (storeAt s pa 1 .word v)
      = { s with mem := writeLE s.mem pa 4 v, stale := markStale 1 s.stale pa 4, ccDirty := true,
                 llbit := !s.cfg.scClearsLlbit } := by
  have hdirty : (s.ccDirty || (1#2 == matCc)) = true := Bool.or_true _
  rw [← hdirty]
  exact afterSc_of_linked h

/-! SC.W by LLbit and the parameter that asks for the checks of a failing one (R301, 92 D41). -/

section
variable {s : State}

theorem exec_scW_of_linked (h : s.llbit = true) (rd rj : Reg) (i : BitVec 14) :
    exec (.scW rd rj i) s = settle s (reservedAccess s (address14 s rj i) .store) (scStore s rd) := if_pos h

theorem exec_scW_unchecked (h : s.llbit = false) (hc : s.cfg.scFailChecks = false) (rd rj : Reg) (i : BitVec 14) :
    exec (.scW rd rj i) s = scFail s rd := by
  rw [exec_scW, execScW, h, hc]
  rfl

theorem exec_scW_checked (h : s.llbit = false) (hc : s.cfg.scFailChecks = true) (rd rj : Reg) (i : BitVec 14) :
    exec (.scW rd rj i) s = settle s (reservedAccess s (address14 s rj i) .store) fun _ => scFail s rd := by
  rw [exec_scW, execScW, h, hc]
  rfl

end

/-- Settles O30: LL.W and SC.W end as their access does. -/
theorem loadLinkedResult : Obligations.LoadLinkedResult := by
  intro rd rj i s pa
  rw [← address14_eq, ← readLE_word, exec_llW, execLlW]
  refine ⟨fun h => ?load, fun e h => ?llRaise, fun e h hl => ?scRaise, fun h => ?llUncached, fun h hl => ?scUncached⟩
  case load =>
    rw [reservedAccess_cached h, settle_ok]
    exact finish_registerEffect (setReservation s pa) rd _
  case llRaise => rw [reservedAccess_raise h, settle_raise]
  case scRaise => rw [exec_scW_of_linked hl, reservedAccess_raise h, settle_raise]
  case llUncached => rw [reservedAccess_uncached h, settle_refuse]
  case scUncached => rw [exec_scW_of_linked hl, reservedAccess_uncached h, settle_refuse]

/-- Settles O31: the value stored is read before `rd` takes the 1. -/
theorem storeConditionalSucceeds : Obligations.StoreConditionalSucceeds := by
  intro rd rj i s pa hm hl hacc haddr
  rw [← address14_eq] at hacc
  rw [exec_scW_of_linked hl, reservedAccess_cached hacc, settle_ok, scStore_same haddr, afterSc_storeAt hl]
  obtain ⟨t, hend, ⟨g, rfl⟩, hreg⟩ := finish_registerEffect _ rd 1
  exact ⟨_, hend, ⟨g, _, _, rfl⟩, hreg, bytesStored_writeLE hm pa 4 _, staleStored_markStale s.stale pa 4 1⟩

/-- Settles O32: LLbit 0, with and without the checks, and another address than the recorded one. -/
theorem storeConditionalFails : Obligations.StoreConditionalFails := by
  intro rd rj i s
  rw [← address14_eq]
  refine ⟨fun hl hc => ?unchecked, fun hl hc => ?checked, fun pa hl hcheck hne h => ?elsewhere⟩
  case unchecked =>
    rw [exec_scW_unchecked hl hc]
    exact scFail_of_unlinked hl rd
  case checked =>
    rw [exec_scW_checked hl hc]
    refine ⟨fun pa h => ?cached, fun pa h => ?uncached, fun e h => ?raise⟩
    case cached =>
      rw [reservedAccess_cached h, settle_ok]
      exact scFail_of_unlinked hl rd
    case uncached => rw [reservedAccess_uncached h, settle_refuse]
    case raise => rw [reservedAccess_raise h, settle_raise]
  case elsewhere =>
    rw [exec_scW_of_linked hl, reservedAccess_cached h, settle_ok, scStore_elsewhere hcheck hne]
    exact scFail_of_linked hl rd

end Sys2Proof.Machine
end

section
/-! PROOFS. System call, breakpoint and counter reads (45_misc.md R320 to R324). The counter reads end by `finish` in the
state that `counterAdvanced` gives; what is left to prove of them is that the Counter does not wrap there. -/

namespace Sys2Proof.Machine

open Sys2Proof

/-- Settles O37: neither the code nor the level is looked at. -/
theorem syscallAndBreakTrap : Obligations.SyscallAndBreakTrap :=
  fun code s => ⟨exec_syscallI code s, exec_breakI code s⟩

/-- The Counter as a read finds it (R59). -/
theorem counterAdvanced_counter (s : State) :
    (counterAdvanced s).counter =
      s.counter + BitVec.ofNat 64 (Config.freeCount s.draws % (2 ^ 64 - s.counter.toNat)) := rfl

/-- The advance is smaller than the room left below 2^64, so the sum does not wrap (R59). -/
theorem counter_le_counterAdvanced (s : State) : s.counter.toNat ≤ (counterAdvanced s).counter.toNat := by
  have hroom : 0 < 2 ^ 64 - s.counter.toNat := Nat.sub_pos_of_lt s.counter.isLt
  have hadvance := Nat.mod_lt (Config.freeCount s.draws) hroom
  rw [counterAdvanced_counter, BitVec.toNat_add, BitVec.toNat_ofNat]
  omega

/-- Settles O57: one advanced Counter serves both halves. -/
theorem counterReadResult : Obligations.CounterReadResult := by
  intro rd s
  refine ⟨⟨(counterAdvanced s).counter, counter_le_counterAdvanced s, ?low, ?high⟩, ?tid⟩
  case low => exact finish_registerEffect (counterAdvanced s) rd _
  case high => exact finish_registerEffect (counterAdvanced s) rd _
  case tid => exact finish_registerEffect s rd s.csr.tid

end Sys2Proof.Machine
end

section
/-! PROOFS. The floating-point words (46_float.md R330). All 73 end by `floatInstr`, which looks at two things only: whether
the core has a unit, and whether EUEN enables it. -/

namespace Sys2Proof.Machine

open Sys2Proof

/-- Without a unit, EUEN is not looked at (R330). -/
theorem floatInstr_of_no_unit {s : State} (h : s.cfg.hasFpu = false) : floatInstr s = .next (enter .ine s) :=
  if_pos (by rw [h]; rfl)

/-- With a unit, EUEN.FPUen alone decides. -/
theorem floatInstr_of_unit {s : State} (h : s.cfg.hasFpu = true) :
    floatInstr s = if euenFpuen s.csr = true then .refused .floatingPoint else .next (enter .fpd s) := by
  rw [floatInstr, h]
  cases euenFpuen s.csr <;> rfl

/-- A floating-point word looks at none of its fields (R330). -/
theorem exec_of_isFloat {i : Instr} (h : i.isFloat = true) (s : State) : exec i s = floatInstr s := by
  cases i with
  -- the 67 words that are not floating-point
  | rdcntid | rdcntvlW | rdcntvhW | addW | subW | slt | sltu | norR | andR | orR | xorR | sllW | srlW | sraW | mulW
  | mulhW | mulhWu | divW | modW | divWu | modWu | breakI | syscallI | slliW | srliW | sraiW | slti | sltui | addiW
  | andi | ori | xori | csrrd | csrwr | csrxchg | cacop | tlbsrch | tlbrd | tlbwr | tlbfill | ertn | idle | invtlb
  | lu12iW | pcaddu12i | llW | scW | ldB | ldH | ldW | stB | stH | stW | ldBu | ldHu | preld | dbar | ibar | jirl
  | b | bl | beq | bne | blt | bge | bltu | bgeu =>
    exact absurd h Bool.false_ne_true
  | _ => rfl

/-- Settles O56: what one word of the family does is `floatInstr`, whatever the word. -/
theorem floatWordResult : Obligations.FloatWordResult := by
  intro i s hi
  rw [exec_of_isFloat hi]
  refine ⟨floatInstr_of_no_unit, fun hunit hdisabled => ?disabled, fun hunit henabled => ?enabled⟩
  case disabled => exact (floatInstr_of_unit hunit).trans (if_neg (ne_true_of_eq_false hdisabled))
  case enabled => exact (floatInstr_of_unit hunit).trans (if_pos henabled)

end Sys2Proof.Machine
end

section
/-! PROOFS. CSRRD, CSRWR and CSRXCHG (47_privileged.md R340 to R344). The three read a register alike, and a write of
nothing ends as the read does; the four registers with further effects (R344) have a lemma each. -/

namespace Sys2Proof.Machine

open Sys2Proof

/-! What the read of a register leaves in `rd` (R340, R344). -/

/-- A register whose value is free draws it (R51, R55). -/
theorem csrRead_free {s : State} {num : BitVec 14} {c : CsrName} (h : csrOf num = some c) (hf : readsFree s c = true) :
    csrRead s num = (csrFreeValue s c, drawn s) := by
  simp only [csrRead, h, hf, if_true]

/-- A number that is no CSR's reads as a free word (R57). -/
theorem csrRead_unknown {s : State} {num : BitVec 14} (h : csrOf num = none) :
    csrRead s num = (freshWord s, drawn s) := by
  simp only [csrRead, h]

/-- The end of an instruction that reads a CSR and writes none. -/
def finishRead (rd : Reg) (num : BitVec 14) (s : State) : Out := finish (csrRead s num).2 rd (csrRead s num).1

section
variable (rd : Reg) {num : BitVec 14} {s : State}

theorem finishRead_known {c : CsrName} (h : csrOf num = some c) (hctag : c ≠ .ctag)
    (htval : c = .tval → s.timer.expired = false) :
    Ends (finishRead rd num s) (RegisterEffect s rd (csrValue s c)) := by
  rw [finishRead, csrRead_value s num c h (readsFree_false hctag htval)]
  exact finish_registerEffect s rd _

theorem finishRead_tval (h : csrOf num = some .tval) (hexpired : s.timer.expired = true) :
    Ends (finishRead rd num s)
      (RegisterEffect { s with draws := s.draws + 1 } rd (Config.freeWord s.draws &&& lowMask s.cfg.timerBits)) := by
  rw [finishRead, csrRead_free h hexpired]
  exact finish_registerEffect (drawn s) rd _

theorem finishRead_free (h : csrOf num = none ∨ csrOf num = some .ctag) :
    Ends (finishRead rd num s) (RegisterEffect { s with draws := s.draws + 1 } rd (Config.freeWord s.draws)) := by
  have hread : csrRead s num = (freshWord s, drawn s) := h.elim csrRead_unknown fun h => csrRead_free h rfl
  rw [finishRead, hread]
  exact finish_registerEffect (drawn s) rd _

end

/-- Settles O46. -/
theorem csrReadResult : Obligations.CsrReadResult := by
  intro rd num s hp
  have hexec : exec (.csrrd rd num) s = finishRead rd num s := privileged_kernel s _ hp
  rw [hexec]
  exact ⟨fun c => finishRead_known rd, finishRead_tval rd, finishRead_free rd⟩

/-! Writes of nothing (R51, R55, R57, R342). -/

/-- A swap whose write changes nothing ends as a read. -/
theorem csrSwap_of_noWrite (rd : Reg) {num : BitVec 14} {m : Word} (s : State)
    (h : ∀ (t : State) (v : Word), csrWrite t num v m = .ok t) : csrSwap rd num m s = finishRead rd num s := by
  rw [csrSwap, h, settle_ok]
  rfl

/-- With mask 0 nothing is written (R342). -/
theorem csrWrite_maskZero (s : State) (num : BitVec 14) (v : Word) : csrWrite s num v 0 = .ok s := by
  unfold csrWrite
  split
  · rfl
  · exact if_pos rfl

/-- A number that stores nothing and triggers nothing: TVAL's, CTAG's or no CSR's (R51, R55, R57). -/
theorem csrWrite_unstored {num : BitVec 14} (h : csrOf num = none ∨ csrOf num = some .tval ∨ csrOf num = some .ctag)
    (s : State) (v m : Word) : csrWrite s num v m = .ok s := by
  rcases h with h | h | h
  · simp only [csrWrite, h]
  all_goals
    simp only [csrWrite, h]
    exact ite_self _

/-- Settles O49. -/
theorem csrWriteOfNothing : Obligations.CsrWriteOfNothing := by
  refine fun rd rj num c s hp => ⟨fun hc hctag htval hmask => ?maskZero, fun i hi => ?unstored⟩
  case maskZero =>
    rw [exec_csrxchg, execCsrxchg, privileged_kernel _ _ hp, hmask,
      csrSwap_of_noWrite rd s fun t v => csrWrite_maskZero t num v]
    exact finishRead_known rd hc hctag htval
  case unstored =>
    have hexec (h : csrOf num = none ∨ csrOf num = some .tval ∨ csrOf num = some .ctag) :
        exec i s = finishRead rd num s := by
      have hswap (m : Word) := csrSwap_of_noWrite rd (m := m) s fun t v => csrWrite_unstored h t v m
      simp only [List.mem_cons, List.not_mem_nil, or_false] at hi
      rcases hi with rfl | rfl
      · rw [exec_csrwr, execCsrwr, privileged_kernel _ _ hp, hswap]
      · rw [exec_csrxchg, execCsrxchg, privileged_kernel _ _ hp, hswap]
    refine ⟨fun h hexpired => ?tval, fun h hexpired => ?tvalExpired, fun h => ?free⟩
    case tval =>
      rw [hexec (.inr (.inl h))]
      exact finishRead_known rd h nofun fun _ => hexpired
    case tvalExpired =>
      rw [hexec (.inr (.inl h))]
      exact finishRead_tval rd h hexpired
    case free =>
      rw [hexec (h.imp_right .inr)]
      exact finishRead_free rd h

/-! The registers with further effects: TCFG, TICLR, LLBCTL and CRMD (R344). -/

/-- The timer's start value is InitVal, of TIMER_BITS bits, then two zeros (R50, R445). -/
theorem bit_timerStart (cfg : Config.Params) (c : Csrs) {i : Nat} (hi : i < 32) :
    bit i (timerStart cfg c) = true ↔ 2 ≤ i ∧ i < cfg.timerBits ∧ bit i c.tcfg = true := by
  have hwidth := bit_lowMask cfg.timerBits hi
  have hlow := bit_lowMask 2 hi
  unfold bit at hwidth hlow ⊢
  simp only [timerStart, BitVec.getLsbD_and, BitVec.getLsbD_not, hwidth, hlow, Bool.and_eq_true, Bool.not_eq_true',
    decide_eq_true_eq, decide_eq_false_iff_not, Nat.not_lt]
  tauto

/-- What a write of TCFG leaves of the timer (R445). -/
theorem loadTimer_eq (s : State) :
    loadTimer s = { s with timer := (if tcfgEn s.csr then
        { s.timer with count := timerStart s.cfg s.csr, running := true, expired := false }
      else { s.timer with running := false }) } := by
  unfold loadTimer
  cases tcfgEn s.csr <;> rfl

/-- A write of TICLR with bit 0 written 1 clears the latch (R52). -/
theorem clearTimerInterrupt_if (b : Bool) (s : State) :
    (if b = true then clearTimerInterrupt s else s) =
      { s with timer := { s.timer with pending := s.timer.pending && !b } } := by
  cases b with
  | false =>
    rw [if_neg Bool.false_ne_true, Bool.not_false, Bool.and_true]
  | true =>
    rw [if_pos rfl, Bool.not_true, Bool.and_false]
    rfl

/-- A write of LLBCTL with bit 1 written 1 clears LLbit (R53). -/
theorem clearLlbit_if (b : Bool) (s : State) :
    (if b = true then clearLlbit s else s) = { s with llbit := s.llbit && !b } := by
  cases b with
  | false => rw [if_neg Bool.false_ne_true, Bool.not_false, Bool.and_true]
  | true =>
    rw [if_pos rfl, Bool.not_true, Bool.and_false]
    rfl

theorem bit_and (k : Nat) (v m : Word) : bit k (v &&& m) = (bit k v && bit k m) := BitVec.getLsbD_and

section
variable (rd : Reg) {m : Word} (hm : m ≠ 0) (s : State)
include hm

/-- A swap on a register whose value is given: the write's outcome, then the old value into `rd` (R341, R342). -/
theorem csrSwap_eq {num : BitVec 14} {c : CsrName} (hc : csrOf num = some c) (hf : readsFree s c = false) :
    csrSwap rd num m s = settle s (csrEffect c (readReg s rd &&& m) { s with csr := csrStored s c (readReg s rd) m })
      fun t => finish t rd (csrValue s c) := by
  rw [csrSwap, csrRead_value s num c hc hf, csrWrite_known s num c _ m hc hm]

theorem csrSwap_tcfg : Ends (csrSwap rd 0x41 m s) fun t =>
    (∃ g, t = { s with csr := t.csr, timer := t.timer, gpr := g, pc := s.pc + 4 }) ∧
      t.csr = { s.csr with
        tcfg := (s.csr.tcfg &&& ~~~(lowMask s.cfg.timerBits &&& m)) |||
          (readReg s rd &&& (lowMask s.cfg.timerBits &&& m)) } ∧
      t.timer = (if tcfgEn t.csr then
          { s.timer with count := timerStart s.cfg t.csr, running := true, expired := false }
        else { s.timer with running := false }) ∧
      ∀ r, readReg t r = if r = 0 then 0 else if r = rd then csrValue s .tcfg else readReg s r := by
  rw [csrSwap_eq rd hm s (c := .tcfg) rfl rfl, csrEffect, settle_ok, loadTimer_eq]
  obtain ⟨t, hend, ⟨g, rfl⟩, hreg⟩ := finish_registerEffect _ rd (csrValue s .tcfg)
  exact ⟨_, hend, ⟨g, rfl⟩, rfl, rfl, hreg⟩

theorem csrSwap_ticlr : Ends (csrSwap rd 0x44 m s) (RegisterEffect
    { s with timer := { s.timer with pending := s.timer.pending && !(bit 0 (readReg s rd) && bit 0 m) } } rd 0) := by
  have hvalue : csrValue s .ticlr = 0 := BitVec.and_zero
  have hstored : csrStored s .ticlr (readReg s rd) m = s.csr := rfl
  rw [csrSwap_eq rd hm s (c := .ticlr) rfl rfl, csrEffect, settle_ok, clearTimerInterrupt_if, bit_and, hvalue, hstored]
  exact finish_registerEffect _ rd 0

theorem csrSwap_llbctl : Ends (csrSwap rd 0x60 m s) fun t =>
    (∃ g, t = { s with csr := t.csr, llbit := s.llbit && !(bit 1 (readReg s rd) && bit 1 m), gpr := g,
                       pc := s.pc + 4 }) ∧
      t.csr = { s.csr with llbctl := (s.csr.llbctl &&& ~~~(4#32 &&& m)) ||| (readReg s rd &&& (4#32 &&& m)) } ∧
      ∀ r, readReg t r = if r = 0 then 0 else if r = rd then csrValue s .llbctl else readReg s r := by
  rw [csrSwap_eq rd hm s (c := .llbctl) rfl rfl, csrEffect, settle_ok, clearLlbit_if, bit_and]
  obtain ⟨t, hend, ⟨g, rfl⟩, hreg⟩ := finish_registerEffect _ rd (csrValue s .llbctl)
  exact ⟨_, hend, ⟨g, rfl⟩, rfl, hreg⟩

/-- What CRMD holds once the bits of `x[rd]` under the mask are stored (R32, R344). -/
theorem csrSwap_crmd {w : Word}
    (hw : w = (s.csr.crmd &&& ~~~(0x1FF#32 &&& m)) ||| (readReg s rd &&& (0x1FF#32 &&& m))) :
    csrSwap rd 0x0 m s =
      if bits 0 2 w = 1 ∨ bits 0 2 w = 2 then .refused .privilegeLevelIllegal
      else finish { s with csr := { s.csr with crmd := w } } rd (csrValue s .crmd) := by
  subst hw
  rw [csrSwap_eq rd hm s (c := .crmd) rfl rfl, csrEffect]
  split
  · next h => exact (if_pos h).symm
  · next h => exact (if_neg h).symm

end

/-- Settles O48: CSRWR and CSRXCHG are one swap, under a mask that is not 0. -/
theorem csrWriteSideEffects : Obligations.CsrWriteSideEffects := by
  refine ⟨fun cfg c i hi => bit_timerStart cfg c hi, fun rd rj s swap m hp hswap => ?_⟩
  have hm : m ≠ 0 := by
    rcases hswap with ⟨-, rfl⟩ | ⟨-, -, hm⟩
    · decide
    · exact hm
  have hexec (num : BitVec 14) : exec (swap num) s = csrSwap rd num m s := by
    rcases hswap with ⟨rfl, rfl⟩ | ⟨rfl, rfl, -⟩
    · exact privileged_kernel s _ hp
    · exact privileged_kernel s _ hp
  simp only [hexec]
  refine ⟨csrSwap_tcfg rd hm s, csrSwap_ticlr rd hm s, csrSwap_llbctl rd hm s, fun w hw => ?crmd⟩
  case crmd =>
    rw [csrSwap_crmd rd hm s hw]
    refine ⟨fun h => if_pos h, fun h => ?legal⟩
    case legal =>
      have hlegal : ¬(bits 0 2 w = 1 ∨ bits 0 2 w = 2) := by
        rcases h with h | h <;> rw [h] <;> decide
      rw [if_neg hlegal]
      obtain ⟨t, hend, ⟨g, ht⟩, hreg⟩ := finish_registerEffect _ rd (csrValue s .crmd)
      exact ⟨t, hend, ⟨g, ht⟩, hreg⟩

end Sys2Proof.Machine
end

section
/-! PROOFS. The TLB instructions (47_privileged.md R360 to R365). Each has an equation per outcome at PLV0; the rest is
about the words of TLBIDX, TLBELO0 and TLBELO1, field by field. -/

namespace Sys2Proof.Machine

open Sys2Proof

/-! The words of the CSRs that hold a TLB entry. -/

/-- A page packed from the fields of a TLBELO register is the register, where its reserved bits are 0 (R42). -/
theorem packPage_pageOfCsr (cfg : Config.Params) {w : Word}
    (h : Within (0x7F ||| (lowMask (cfg.palen - 4) &&& ~~~lowMask 8)) w) :
    packPage cfg (bit 6 w) (pageOfCsr cfg w) = w := by
  refine BitVec.eq_of_getLsbD_eq fun i hi => ?_
  rw [getLsbD_packPage _ _ _ _ hi]
  have hmask : w.getLsbD i = true → i ≤ 6 ∨ (8 ≤ i ∧ i + 5 ≤ cfg.palen) :=
    fun hw => (bit_tlbelo_mask cfg.palen hi).1 ((within_iff _ _).1 h i hw)
  have hlow := bit_lowMask (cfg.palen - 4) hi
  unfold bit at hlow
  simp only [pageOfCsr, bit, getLsbD_bits, BitVec.getLsbD_and]
  grind

/-- A word whose top bit is already clear is not changed by clearing it. -/
theorem setBits_31_zero {w : Word} (h : bit 31 w = false) : setBits 31 (0#1) w = w := by
  refine BitVec.eq_of_getLsbD_eq fun i hi => ?_
  rw [getLsbD_setBits _ _ _ _ hi]
  split
  · next hi31 =>
    obtain rfl : i = 31 := by omega
    exact h.symm
  · rfl

/-! TLBWR and TLBRD. -/

/-- The entry of the CSRs can be written: it is empty, or its page size is legal (R364). -/
def EntryLegal (s : State) : Prop := (entryFromCsr s).e = true → legalPs s.cfg (entryFromCsr s).ps = true

theorem writeEntry_legal {s : State} (h : EntryLegal s) (i : Nat) :
    writeEntry i s = .ok { s with tlb := s.tlb.set i (entryFromCsr s) } := by
  refine if_neg ?_
  rw [Bool.and_eq_true, Bool.not_eq_true']
  exact fun ⟨he, hps⟩ => Bool.false_ne_true (hps.symm.trans (h he))

theorem writeEntry_illegal {s : State} (he : (entryFromCsr s).e = true)
    (hps : legalPs s.cfg (entryFromCsr s).ps = false) (i : Nat) : writeEntry i s = .refuse .pageSizeIllegal :=
  if_pos (by rw [he, hps]; rfl)

section
variable {s : State} (hp : crmdPlv s.csr = 0)
include hp

theorem exec_tlbrd_found {e : TlbEntry} (h : s.tlb[tlbidxIndex s]? = some e) :
    exec .tlbrd s = .next (advance { s with csr := readEntry s.cfg e s.csr }) := by
  rw [exec_tlbrd, execTlbrd, privileged_kernel _ _ hp, h]

theorem exec_tlbwr_inRange (h : tlbidxIndex s < s.tlb.length) :
    exec .tlbwr s = settle s (writeEntry (tlbidxIndex s) s) fun t => .next (advance t) := by
  rw [exec_tlbwr, execTlbwr, privileged_kernel _ _ hp, if_neg (by omega)]

theorem exec_tlbwr_outOfRange (h : s.tlb.length ≤ tlbidxIndex s) :
    exec .tlbwr s = .refused .tlbIndexOutOfRange := by
  rw [exec_tlbwr, execTlbwr, privileged_kernel _ _ hp, if_pos h]

/-- What a TLBWR that goes on has done (R362). -/
theorem tlbwr_next {t : State} (h : exec .tlbwr s = .next t) :
    tlbidxIndex s < s.tlb.length ∧ t = advance { s with tlb := s.tlb.set (tlbidxIndex s) (entryFromCsr s) } := by
  by_cases hi : tlbidxIndex s < s.tlb.length
  · rw [exec_tlbwr_inRange hp hi] at h
    by_cases hl : EntryLegal s
    · rw [writeEntry_legal hl, settle_ok] at h
      cases h
      exact ⟨hi, rfl⟩
    · obtain ⟨he, hps⟩ := Classical.not_imp.1 hl
      rw [writeEntry_illegal he (Bool.eq_false_iff.2 hps), settle_refuse] at h
      cases h
  · rw [exec_tlbwr_outOfRange hp (by omega)] at h
    cases h

end

/-- Reading back the entry of the CSRs gives the CSRs (R361, R364). -/
theorem readEntry_entryFromCsr {s : State} (h : ReservedZero s) (hne : bit 31 s.csr.tlbidx = false)
    (hg : bit 6 s.csr.tlbelo0 = bit 6 s.csr.tlbelo1) : readEntry s.cfg (entryFromCsr s) s.csr = s.csr := by
  have he : (entryFromCsr s).e = true := by
    simp only [entryFromCsr, tlbidxNe, hne, Bool.not_false, ite_self]
  have htlbehi : setBits 13 (entryFromCsr s).vppn s.csr.tlbehi = s.csr.tlbehi := setBits_bits_self 13 19 _
  have hasid : setBits 0 (entryFromCsr s).asid s.csr.asid = s.csr.asid := setBits_bits_self 0 10 _
  have hps : setBits 24 (entryFromCsr s).ps s.csr.tlbidx = s.csr.tlbidx := setBits_bits_self 24 6 _
  have hg0 : (entryFromCsr s).g = bit 6 s.csr.tlbelo0 := by
    simp only [entryFromCsr, ← hg, Bool.and_self]
  have htlbelo0 : packPage s.cfg (entryFromCsr s).g (entryFromCsr s).page0 = s.csr.tlbelo0 := by
    rw [hg0]
    exact packPage_pageOfCsr s.cfg (h .tlbelo0)
  have htlbelo1 : packPage s.cfg (entryFromCsr s).g (entryFromCsr s).page1 = s.csr.tlbelo1 := by
    rw [hg0, hg]
    exact packPage_pageOfCsr s.cfg (h .tlbelo1)
  rw [readEntry, if_pos he, htlbehi, htlbelo0, htlbelo1, hps, setBits_31_zero hne, hasid]

/-- Settles O53: TLBWR leaves the CSRs, and TLBRD writes each with what it holds. -/
theorem tlbReadsBackWhatWasWritten : Obligations.TlbReadsBackWhatWasWritten := by
  intro s t hp hr _ _ hne hg h
  obtain ⟨hi, ht⟩ := tlbwr_next hp h
  have hindex : tlbidxIndex t = tlbidxIndex s := by
    simp only [ht, tlbidxIndex, tlbIdxBits, advance_csr, advance_tlb, List.length_set]
  have hfound : t.tlb[tlbidxIndex t]? = some (entryFromCsr s) := by
    rw [hindex, ht]
    exact List.getElem?_set_self hi
  have hread := exec_tlbrd_found (s := t) (by rw [ht]; exact hp) hfound
  subst ht
  exact ⟨_, hread, readEntry_entryFromCsr hr hne hg, rfl, rfl, rfl⟩

/-! TLBRD, field by field (R361). -/

/-- The fields of a packed page (R42). -/
theorem packPage_fields (cfg : Config.Params) (g : Bool) (p : TlbPage) :
    bit 0 (packPage cfg g p) = p.v ∧ bit 1 (packPage cfg g p) = p.d ∧ bits 2 2 (packPage cfg g p) = p.plv ∧
      bits 4 2 (packPage cfg g p) = p.mat ∧ bit 6 (packPage cfg g p) = g := by
  refine ⟨getLsbD_packPage cfg g p 0 (by decide), getLsbD_packPage cfg g p 1 (by decide), ?plv, ?mat,
    getLsbD_packPage cfg g p 6 (by decide)⟩
  all_goals
    refine BitVec.eq_of_getLsbD_eq fun i hi => ?_
    rw [getLsbD_bits, getLsbD_packPage _ _ _ _ (by omega)]
    grind

/-- The PPN of a packed page at PALEN 32 (R42). -/
theorem bits_ppn_packPage {cfg : Config.Params} (h : cfg.palen = 32) (g : Bool) (p : TlbPage) :
    bits 8 20 (packPage cfg g p) = p.ppn.setWidth 20 := by
  refine BitVec.eq_of_getLsbD_eq fun i hi => ?_
  have hmask : (lowMask (cfg.palen - 4)).getLsbD (8 + i) = true := by
    rw [h, getLsbD_lowMask _ _ (by omega), decide_eq_true_eq]
    omega
  rw [getLsbD_bits, getLsbD_packPage _ _ _ _ (by omega), BitVec.getLsbD_setWidth, hmask]
  grind

/-- The fields of TLBIDX that TLBRD writes, and the one it leaves (R40). -/
theorem tlbidx_fields (ne : BitVec 1) (ps : BitVec 6) (w : Word) :
    bits 0 24 (setBits 31 ne (setBits 24 ps w)) = bits 0 24 w ∧
      bit 31 (setBits 31 ne (setBits 24 ps w)) = ne.getLsbD 0 ∧ bits 24 6 (setBits 31 ne (setBits 24 ps w)) = ps := by
  refine ⟨?index, getLsbD_setBits 31 31 ne _ (by decide), ?ps⟩
  case index =>
    rw [bits_setBits_of_disjoint _ _ _ _ _ (by omega), bits_setBits_of_disjoint _ _ _ _ _ (by omega)]
  case ps => rw [bits_setBits_of_disjoint _ _ _ _ _ (by omega), bits_setBits _ _ _ (by omega)]

theorem exec_tlbrd_notFound {s : State} (hp : crmdPlv s.csr = 0) (h : s.tlb[tlbidxIndex s]? = none) :
    exec .tlbrd s = .refused .tlbIndexOutOfRange := by
  rw [exec_tlbrd, execTlbrd, privileged_kernel _ _ hp, h]

/-- Settles O51: an empty entry and a valid one, each as `readEntry` unpacks it. -/
theorem tlbReadResult : Obligations.TlbReadResult := by
  refine fun s hp => ⟨exec_tlbrd_notFound hp,
    fun e he => ⟨readEntry s.cfg e s.csr, exec_tlbrd_found hp he, ?_⟩⟩
  cases hvalid : e.e with
  | false =>
    obtain ⟨hindex, hne, hps⟩ := tlbidx_fields (1#1) (0#6) s.csr.tlbidx
    rw [readEntry, if_neg (by simp [hvalid])]
    exact ⟨rfl, hindex, hne, fun _ => ⟨rfl, rfl, rfl, hps, bits_setBits 0 _ _ (by omega)⟩, nofun⟩
  | true =>
    obtain ⟨hindex, hne, hps⟩ := tlbidx_fields (0#1) e.ps s.csr.tlbidx
    rw [readEntry, if_pos hvalid]
    refine ⟨rfl, hindex, hne, nofun, fun _ => ⟨hps, bits_setBits 13 _ _ (by omega), bits_setBits 0 _ _ (by omega),
      packPage_fields s.cfg e.g e.page0, packPage_fields s.cfg e.g e.page1, fun h => ?ppn⟩⟩
    case ppn => exact ⟨bits_ppn_packPage h e.g e.page0, bits_ppn_packPage h e.g e.page1⟩

/-! TLBWR and TLBFILL (R362 to R364). -/

/-- The low n bits of a word as a number. -/
theorem toNat_and_lowMask (w : Word) (n : Nat) : (w &&& lowMask n).toNat = w.toNat % 2 ^ n := by
  refine Nat.eq_of_testBit_eq fun i => ?_
  have hw : 32 ≤ i → w.toNat.testBit i = false := fun hi => BitVec.testBit_toNat w ▸ BitVec.getLsbD_of_ge w i hi
  rw [BitVec.toNat_and, Nat.testBit_and, Nat.testBit_mod_two_pow, lowMask, BitVec.toNat_ofNat,
    Nat.testBit_mod_two_pow, Nat.testBit_two_pow_sub_one]
  grind

/-- E of the entry of the CSRs: set while a refill is handled, else the inverse of NE (R364). -/
theorem entryFromCsr_e (s : State) :
    (entryFromCsr s).e = (bits 16 6 s.csr.estat == 0x3F || !bit 31 s.csr.tlbidx) := by
  by_cases h : estatEcode s.csr = ecodeTlbr
  · have hb : bits 16 6 s.csr.estat = 0x3F := h
    rw [entryFromCsr, if_pos h, hb]
    rfl
  · have hb : (bits 16 6 s.csr.estat == 0x3F) = false := beq_eq_false_iff_ne.2 h
    rw [entryFromCsr, if_neg h, hb]
    rfl

theorem entryFromCsr_e_iff (s : State) :
    (entryFromCsr s).e = true ↔ bits 16 6 s.csr.estat = 0x3F ∨ bit 31 s.csr.tlbidx = false := by
  rw [entryFromCsr_e, Bool.or_eq_true, beq_iff_eq, Bool.not_eq_true']

/-- The PPN of a TLBELO register at PALEN 32 (R42). -/
theorem pageOfCsr_ppn {cfg : Config.Params} (h : cfg.palen = 32) (w : Word) :
    (pageOfCsr cfg w).ppn = (bits 8 20 w).setWidth 24 := by
  refine BitVec.eq_of_getLsbD_eq fun i hi => ?_
  simp only [pageOfCsr, h, getLsbD_bits, BitVec.getLsbD_and, BitVec.getLsbD_setWidth,
    getLsbD_lowMask 28 (8 + i) (by omega)]
  grind

section
variable {s : State} (hp : crmdPlv s.csr = 0)
include hp

/-- TLBFILL draws the index of the entry it writes (R363). -/
theorem exec_tlbfill_at : exec .tlbfill s =
    settle s (writeEntry (Config.freeCount s.draws % s.tlb.length) (drawn s)) fun t => .next (advance t) := by
  rw [exec_tlbfill, execTlbfill, privileged_kernel _ _ hp]

theorem tlbwr_illegal (he : (entryFromCsr s).e = true) (hps : legalPs s.cfg (entryFromCsr s).ps = false)
    (hi : tlbidxIndex s < s.tlb.length) : exec .tlbwr s = .refused .pageSizeIllegal := by
  rw [exec_tlbwr_inRange hp hi, writeEntry_illegal he hps, settle_refuse]

theorem tlbfill_illegal (he : (entryFromCsr s).e = true) (hps : legalPs s.cfg (entryFromCsr s).ps = false) :
    exec .tlbfill s = .refused .pageSizeIllegal := by
  rw [exec_tlbfill_at hp, writeEntry_illegal (s := drawn s) he hps, settle_refuse]

theorem tlbwr_legal (hl : EntryLegal s)
    (hi : tlbidxIndex s < s.tlb.length) :
    exec .tlbwr s = .next { s with tlb := s.tlb.set (tlbidxIndex s) (entryFromCsr s), pc := s.pc + 4 } := by
  rw [exec_tlbwr_inRange hp hi, writeEntry_legal hl, settle_ok]
  rfl

theorem tlbfill_legal (hl : EntryLegal s)
    (h : 0 < s.tlb.length) :
    ∃ k, k < s.tlb.length ∧
      exec .tlbfill s = .next { s with tlb := s.tlb.set k (entryFromCsr s), draws := s.draws + 1, pc := s.pc + 4 } := by
  refine ⟨_, Nat.mod_lt (Config.freeCount s.draws) h, ?_⟩
  rw [exec_tlbfill_at hp, writeEntry_legal (s := drawn s) hl, settle_ok]
  rfl

end

/-- Settles O52. -/
theorem tlbWriteResult : Obligations.TlbWriteResult := by
  refine ⟨fun s n h hmin => ?index, fun s hp => ⟨exec_tlbwr_outOfRange hp, fun he h12 hlarge => ?illegal,
    fun hl => ?legal⟩⟩
  case index =>
    have hn := tlbIdxBits_eq h hmin
    exact ⟨hn, by rw [tlbidxIndex, hn, toNat_and_lowMask]⟩
  case illegal =>
    have he' := (entryFromCsr_e_iff s).2 he
    have hps : legalPs s.cfg (entryFromCsr s).ps = false :=
      Bool.eq_false_iff.2 fun h => ((legalPs_iff _ _).1 h).elim h12 hlarge
    exact ⟨tlbwr_illegal hp he' hps, tlbfill_illegal hp he' hps⟩
  case legal =>
    have hlegal : EntryLegal s := fun he => (legalPs_iff _ _).2 (hl ((entryFromCsr_e_iff s).1 he))
    exact ⟨entryFromCsr s, entryFromCsr_e s, rfl, rfl, rfl, rfl, ⟨rfl, rfl, rfl, rfl, fun h => pageOfCsr_ppn h _⟩,
      ⟨rfl, rfl, rfl, rfl, fun h => pageOfCsr_ppn h _⟩, tlbwr_legal hp hlegal, tlbfill_legal hp hlegal⟩

/-! TLBSRCH (R360). -/

theorem exec_tlbsrch_lookup {s : State} (hp : crmdPlv s.csr = 0) :
    exec .tlbsrch s = settle s (tlbLookup s (bits 13 19 s.csr.tlbehi ++ 0#13)) fun hit =>
      .next { s with csr := { s.csr with tlbidx := searchResult s hit }, pc := s.pc + 4 } := by
  rw [exec_tlbsrch, execTlbsrch, privileged_kernel _ _ hp]
  rfl

/-- Every bit of TLBIDX after Index was set (R40). -/
theorem getLsbD_setIndex (s : State) (n : Nat) (w : Word) {i : Nat} (hi : i < 32) :
    (setIndex s n w).getLsbD i = if i < tlbIdxBits s then n.testBit i else w.getLsbD i := by
  have hlow := bit_lowMask (tlbIdxBits s) hi
  unfold bit at hlow
  simp only [setIndex, BitVec.getLsbD_or, BitVec.getLsbD_and, BitVec.getLsbD_not, hlow, BitVec.getLsbD_ofNat, hi,
    decide_true, Bool.true_and]
  grind

theorem searchResult_missed (s : State) :
    bit 31 (searchResult s none) = true ∧ bits 0 31 (searchResult s none) = bits 0 31 s.csr.tlbidx :=
  ⟨getLsbD_setBits 31 31 (1#1) _ (by decide), bits_setBits_of_disjoint _ _ _ _ _ (by omega)⟩

/-- TLBIDX after a search that found entry n (R360). -/
theorem searchResult_found {s : State} (hlen : s.tlb.length ≤ 2 ^ 16) {n : Nat} (hn : n < s.tlb.length)
    (e : TlbEntry) :
    bit 31 (searchResult s (some (e, n))) = false ∧ (searchResult s (some (e, n))).toNat % 2 ^ tlbIdxBits s = n ∧
      bits 16 15 (searchResult s (some (e, n))) = bits 16 15 s.csr.tlbidx := by
  have hwidth := tlbIdxBits_le s hlen
  have hfits := lt_two_pow_tlbIdxBits s hn
  refine ⟨getLsbD_setBits 31 31 (0#1) _ (by decide), Nat.eq_of_testBit_eq fun i => ?index, ?rest⟩
  case index =>
    rw [Nat.testBit_mod_two_pow]
    by_cases hi : i < tlbIdxBits s
    · rw [decide_eq_true hi, Bool.true_and, BitVec.testBit_toNat, searchResult,
        getLsbD_setBits _ _ _ _ (by omega), if_neg (by omega), getLsbD_setIndex _ _ _ (by omega), if_pos hi]
    · have hhigh : n.testBit i = false :=
        Nat.testBit_lt_two_pow (hfits.trans_le (Nat.pow_le_pow_right (by omega) (by omega)))
      rw [decide_eq_false hi, Bool.false_and, hhigh]
  case rest =>
    rw [searchResult, bits_setBits_of_disjoint _ _ _ _ _ (by omega)]
    refine BitVec.eq_of_getLsbD_eq fun i hi => ?_
    rw [getLsbD_bits, getLsbD_bits, getLsbD_setIndex _ _ _ (by omega), if_neg (by omega)]

/-- Settles O50: each answer of the lookup gives one case of the search. -/
theorem tlbSearchResult : Obligations.TlbSearchResult := by
  intro s hp
  rw [exec_tlbsrch_lookup hp]
  refine ⟨?illegal, fun hlegal => ⟨?double, fun hmiss => ?missed, ?found⟩⟩
  case illegal =>
    rintro ⟨e, he, hin, hps⟩
    rw [tlbLookup_illegalSize _ he hin hps, settle_refuse]
  case double =>
    intro m n e f hne hm hn he hev hf hfv
    rw [tlbLookup_many hlegal hne hm hn he hev hf hfv, settle_fault]
  case missed =>
    rw [tlbLookup_none hlegal hmiss, settle_ok]
    exact ⟨_, rfl, searchResult_missed s⟩
  case found =>
    intro n e hn he hev hunique hlen
    rw [tlbLookup_one hlegal hn he hev hunique, settle_ok]
    exact ⟨_, rfl, searchResult_found hlen (List.getElem?_eq_some_iff.1 hn).1 e⟩

/-! INVTLB (R365). -/

section
variable {op : BitVec 5} {rj rk : Reg} {s : State} (hp : crmdPlv s.csr = 0)

/-- An op that does not exist raises INE, whatever the level (R343). -/
theorem exec_invtlb_undefined (h : 6 < op) : exec (.invtlb op rj rk) s = .next (enter .ine s) := if_pos h

theorem exec_invtlb_user (hop : op ≤ 6) (hu : crmdPlv s.csr ≠ 0) :
    exec (.invtlb op rj rk) s = .next (enter .ipe s) := by
  rw [exec_invtlb, execInvtlb, if_neg (BitVec.not_lt.2 hop), privileged_user _ _ hu]

include hp in
theorem exec_invtlb_asidBits (hop : op ≤ 6) (h4 : 4 ≤ op) (h : bits 10 22 (readReg s rj) ≠ 0) :
    exec (.invtlb op rj rk) s = .refused .invtlbAsidBits := by
  rw [exec_invtlb, execInvtlb, if_neg (BitVec.not_lt.2 hop), privileged_kernel _ _ hp, if_pos ⟨h4, h⟩]

include hp in
/-- Past the check of the ASID register, the page sizes decide (R365). -/
theorem exec_invtlb_checked (hop : op ≤ 6) (h : 4 ≤ op → bits 10 22 (readReg s rj) = 0) :
    exec (.invtlb op rj rk) s =
      if s.tlb.any (invtlbIllegal s.cfg op (bits 0 10 (readReg s rj))) = true then .refused .pageSizeIllegal
      else .next { s with tlb := invalidated op (bits 0 10 (readReg s rj)) (readReg s rk) s.tlb, pc := s.pc + 4 } := by
  rw [exec_invtlb, execInvtlb, if_neg (BitVec.not_lt.2 hop), privileged_kernel _ _ hp,
    if_neg (fun ⟨h4, hne⟩ => hne (h h4))]
  rfl

end

/-- Bits [31:10] of a word are 0 when its value is below 1024. -/
theorem bits_high_eq_zero_iff (w : Word) : bits 10 22 w = 0 ↔ w.toNat < 1024 := by
  have hw := w.isLt
  rw [← BitVec.toNat_inj, toNat_bits, show (0 : BitVec 22).toNat = 0 from rfl]
  omega

/-- Which entries ops 5 and 6 compare under an illegal page size (R129, R365). -/
theorem invtlbIllegal_iff (cfg : Config.Params) (op : BitVec 5) (asid : BitVec 10) (e : TlbEntry) :
    invtlbIllegal cfg op asid e = true ↔ e.e = true ∧ legalPs cfg e.ps = false ∧
      ((op = 5 ∧ e.g = false ∧ e.asid = asid) ∨ (op = 6 ∧ (e.g = true ∨ e.asid = asid))) := by
  simp [invtlbIllegal, and_assoc]

/-- The table of R365, by the number of the op. -/
theorem invtlbSelects_eq {op : BitVec 5} (h : op ≤ 6) (asid : BitVec 10) (va : Word) (e : TlbEntry) :
    invtlbSelects op asid va e = match op.toNat with
      | 0 => true
      | 1 => true
      | 2 => e.g
      | 3 => !e.g
      | 4 => !e.g && e.asid == asid
      | 5 => !e.g && e.asid == asid && vppnMatches e va
      | _ => (e.g || e.asid == asid) && vppnMatches e va := by
  have hop : op = 0 ∨ op = 1 ∨ op = 2 ∨ op = 3 ∨ op = 4 ∨ op = 5 ∨ op = 6 := by
    revert op
    decide
  rcases hop with rfl | rfl | rfl | rfl | rfl | rfl | rfl <;> rfl

/-- An INVTLB clears E where its op selects (R365). -/
theorem invalidated_eq (op : BitVec 5) (asid : BitVec 10) (va : Word) (t : List TlbEntry) :
    invalidated op asid va t = t.map fun e => { e with e := e.e && !invtlbSelects op asid va e } := by
  refine List.map_congr_left fun e _ => ?_
  cases invtlbSelects op asid va e
  · rw [if_neg Bool.false_ne_true, Bool.not_false, Bool.and_true]
  · rw [if_pos rfl, Bool.not_true, Bool.and_false]

/-- Settles O54. -/
theorem invtlbResult : Obligations.InvtlbResult := by
  refine fun op rj rk s => ⟨exec_invtlb_undefined, fun hp => ⟨fun h4 hop h => ?asidBits, fun h hex => ?illegal,
    fun hop h hlegal p hsel => ?invalidated⟩⟩
  case asidBits => exact exec_invtlb_asidBits hp hop h4 (mt (bits_high_eq_zero_iff _).1 (by omega))
  case illegal =>
    obtain ⟨e, he, hcompared⟩ := hex
    have hop : op ≤ 6 := by
      obtain ⟨-, -, ⟨rfl, -⟩ | ⟨rfl, -⟩⟩ := hcompared <;> decide
    rw [exec_invtlb_checked hp hop fun _ => (bits_high_eq_zero_iff _).2 h, if_pos]
    exact List.any_eq_true.2 ⟨e, he, (invtlbIllegal_iff _ _ _ _).2 hcompared⟩
  case invalidated =>
    rw [exec_invtlb_checked hp hop fun h4 => (bits_high_eq_zero_iff _).2 (h h4), if_neg, invalidated_eq]
    · have hp' : invtlbSelects op (bits 0 10 (readReg s rj)) (readReg s rk) = p :=
        funext fun e => (invtlbSelects_eq hop _ _ e).trans (hsel e).symm
      rw [hp']
    · rw [List.any_eq_true]
      rintro ⟨e, he, hill⟩
      obtain ⟨hE, hps, hcompared⟩ := (invtlbIllegal_iff _ _ _ _).1 hill
      exact Bool.false_ne_true (hps.symm.trans (hlegal e he hE hcompared))

end Sys2Proof.Machine
end

section
/-! PROOFS. ERTN and IDLE (47_privileged.md R375, R380; 60_exceptions.md R430, R450): the words a return leaves in CRMD
and LLBCTL, and the boundary of a waiting core. -/

namespace Sys2Proof.Machine

open Sys2Proof

/-! ERTN (R375). -/

/-- PLV and IE come from PRMD; DATF and everything above stay (R375). -/
theorem returnCsrs_crmd_fields (c : Csrs) :
    bits 0 2 (returnCsrs c).crmd = bits 0 2 c.prmd ∧ bits 2 1 (returnCsrs c).crmd = bits 2 1 c.prmd ∧
      bits 5 27 (returnCsrs c).crmd = bits 5 27 c.crmd := by
  unfold returnCsrs
  dsimp only
  split <;> simp [bits_setBits, bits_setBits_of_disjoint]

/-- DA = 0 and PG = 1 after a TLB refill, as they were after any other exception (92 D32). -/
theorem returnCsrs_crmd_mode (c : Csrs) :
    bits 3 2 (returnCsrs c).crmd = if bits 16 6 c.estat = 0x3F then 2#2 else bits 3 2 c.crmd := by
  change bits 3 2 (if bits 16 6 c.estat = 0x3F then _ else _) = _
  split
  · refine BitVec.eq_of_getLsbD_eq fun i hi => ?_
    rw [getLsbD_bits, getLsbD_setBits _ _ _ _ (by omega), getLsbD_setBits _ _ _ _ (by omega)]
    interval_cases i <;> rfl
  · rw [bits_setBits_of_disjoint _ _ _ _ _ (by omega), bits_setBits_of_disjoint _ _ _ _ _ (by omega)]

/-- KLO is cleared, the rest of LLBCTL stays (92 D31). -/
theorem returnCsrs_llbctl_fields (c : Csrs) :
    bit 2 (returnCsrs c).llbctl = false ∧ bits 0 2 (returnCsrs c).llbctl = bits 0 2 c.llbctl ∧
      bits 3 29 (returnCsrs c).llbctl = bits 3 29 c.llbctl :=
  ⟨getLsbD_setBits 2 2 (0#1) _ (by decide), bits_setBits_of_disjoint _ _ _ _ _ (by omega),
    bits_setBits_of_disjoint _ _ _ _ _ (by omega)⟩

/-- A return changes two CSRs, the PC and LLbit, which stays only under KLO (R304, R375). -/
theorem exceptionReturn_eq (s : State) :
    exceptionReturn s =
      { s with csr := { s.csr with crmd := (returnCsrs s.csr).crmd, llbctl := (returnCsrs s.csr).llbctl },
               pc := s.csr.era, llbit := s.llbit && bit 2 s.csr.llbctl } := by
  unfold exceptionReturn llbctlKlo
  cases bit 2 s.csr.llbctl
  · rw [Bool.and_false]
    rfl
  · rw [Bool.and_true]
    rfl

/-- Settles O39. -/
theorem ertnEffect : Obligations.ErtnEffect := by
  refine fun s hp => ⟨fun h => ?declined, fun h => ?returns⟩
  case declined =>
    rw [exec_ertn, execErtn, privileged_kernel _ _ hp]
    exact if_pos h
  case returns =>
    have hlegal : ¬(prmdPplv s.csr = 1 ∨ prmdPplv s.csr = 2) := by
      unfold prmdPplv
      rcases h with h | h <;> rw [h] <;> decide
    obtain ⟨hplv, hie, hrest⟩ := returnCsrs_crmd_fields s.csr
    refine ⟨_, _, ?_, hplv, hie, hrest, returnCsrs_crmd_mode s.csr, returnCsrs_llbctl_fields s.csr⟩
    rw [exec_ertn, execErtn, privileged_kernel _ _ hp, if_neg hlegal, exceptionReturn_eq]

/-! IDLE and the boundary of a waiting core (R380, R450). -/

/-- The environment leaves the CSRs, the wait and the parameters (R450). -/
theorem environment_frame (s : State) :
    (environment s).csr = s.csr ∧ (environment s).idle = s.idle ∧ (environment s).cfg = s.cfg := by
  obtain ⟨m, b, hw, ip, k, d, ev, he, -⟩ := environment_spec s
  rw [he]
  exact ⟨rfl, rfl, rfl⟩

section
variable {s : State} (hidle : s.idle = true) (hreset : resetAsserted s = false) (hmode : crmdDa s.csr ≠ crmdPg s.csr)
include hidle hreset hmode

/-- A waiting core waits on, or wakes, by the pending and locally enabled interrupts alone (R380). -/
theorem boundary_of_idle :
    boundary s =
      if intVector (environment s) = true then interruptPoint s { environment s with idle := false }
      else .done (.next (environment s)) := by
  obtain ⟨hcsr, hwait, -⟩ := environment_frame s
  simp only [boundary]
  rw [if_neg (by rw [hreset]; decide), if_neg (by rw [hcsr]; exact hmode), hwait, hidle]
  cases intVector (environment s) <;> rfl

theorem step_idle_waits (hv : intVector (environment s) = false) : step s = .next (environment s) := by
  rw [step, boundary_of_idle hidle hreset hmode, hv]
  rfl

theorem step_idle_wakes (hv : intVector (environment s) = true) (hie : crmdIe s.csr = false) :
    step s = runInstr { environment s with idle := false } := by
  have hpending : intPending { environment s with idle := false } = false := by
    rw [intPending, (environment_frame s).1, hie]
    rfl
  rw [step, boundary_of_idle hidle hreset hmode, if_pos hv, interruptPoint, hpending]
  rfl

theorem step_idle_interrupted (hv : intVector (environment s) = true) (hie : crmdIe s.csr = true)
    (hlatency : s.cfg.intLatency = .immediate) : step s = .next (enter .int (environment s)) := by
  obtain ⟨hcsr, -, hcfg⟩ := environment_frame s
  have hpending : intPending { environment s with idle := false } = true := by
    rw [intPending, hcsr, hie]
    exact hv
  have hchoice : interruptChoice s { environment s with idle := false } =
      (true, { environment s with idle := false }) := by
    simp only [interruptChoice, hcfg, hlatency]
  rw [step, boundary_of_idle hidle hreset hmode, if_pos hv, interruptPoint, if_pos hpending, hchoice]
  rfl

end

/-- Settles O41. -/
theorem idleWaitsAndWakes : Obligations.IdleWaitsAndWakes :=
  ⟨fun _ s hp => privileged_kernel s _ hp, fun _ hidle hreset hmode => ⟨step_idle_waits hidle hreset hmode,
    step_idle_wakes hidle hreset hmode, step_idle_interrupted hidle hreset hmode⟩⟩

end Sys2Proof.Machine
end

section
/-! PROOFS. CACOP (47_privileged.md R350 to R354), by operation and cache, and the privilege of every instruction of the
family (R343). -/

namespace Sys2Proof.Machine

open Sys2Proof

/-! The codes (R350, R353). -/

/-- Store Tag on one of the three caches. -/
theorem cacop_storeTag_code : ∀ {code : BitVec 5}, code.toNat < 3 →
    cacopOp code = 0 ∧ cacopCache code = code.setWidth 3 ∧ cacopDefined code = true := by decide

/-- Index Invalidate on one of the three caches. -/
theorem cacop_index_code : ∀ {code : BitVec 5}, 8 ≤ code.toNat → code.toNat < 11 →
    cacopOp code = 1 ∧ cacopDefined code = true := by decide

/-- A Hit operation on one of the three caches. -/
theorem cacop_hit_code : ∀ {code : BitVec 5}, 16 ≤ code.toNat → code.toNat < 19 →
    cacopOp code = 2 ∧ cacopDefined code = true := by decide

/-- A Hit operation on no cache. -/
theorem cacop_hit_noCache_code : ∀ {code : BitVec 5}, 16 ≤ code.toNat → code.toNat < 24 → 3 ≤ code.toNat % 8 →
    cacopOp code = 2 ∧ cacopDefined code = false := by decide

/-- No operation, or no cache. -/
theorem cacop_undefined_code : ∀ {code : BitVec 5}, 3 ≤ code.toNat % 8 ∨ 24 ≤ code.toNat →
    cacopDefined code = false := by decide

/-! The three operations (R351). -/

section
variable {code : BitVec 5} {rj : Reg} {i : BitVec 12} {s : State}

/-- At PLV0 every operation runs (R352). -/
theorem exec_cacop_kernel (hp : crmdPlv s.csr = 0) : exec (.cacop code rj i) s =
    if cacopDefined code = true then cacopOperate code (address12 s rj i) s else .refused .cacopUndefined := by
  rw [exec_cacop, execCacop, privileged_kernel _ _ hp]
  exact ite_self _

/-- A Hit operation runs at either level (R352). -/
theorem exec_cacop_hit (hop : cacopOp code = 2) (hdef : cacopDefined code = true) : exec (.cacop code rj i) s =
    settle s (resolve s (readReg s rj + i.signExtend 32) .load) fun p =>
      .next { s with stale := hitStale (cacopCache code) p s, pc := s.pc + 4 } := by
  rw [exec_cacop, execCacop, if_pos hop, if_pos hdef, cacopOperate, hop]
  rfl

theorem exec_cacop_hit_ok {pa : Nat} {mat : BitVec 2} (hop : cacopOp code = 2) (hdef : cacopDefined code = true)
    (h : resolve s (readReg s rj + i.signExtend 32) .load = .ok (pa, mat)) : exec (.cacop code rj i) s =
      .next { s with stale := hitStale (cacopCache code) (pa, mat) s, pc := s.pc + 4 } := by
  rw [exec_cacop_hit hop hdef, h, settle_ok]

theorem exec_cacop_hit_raise {e : Exc} (hop : cacopOp code = 2) (hdef : cacopDefined code = true)
    (h : resolve s (readReg s rj + i.signExtend 32) .load = .raise e) :
    exec (.cacop code rj i) s = .next (enter e s) := by
  rw [exec_cacop_hit hop hdef, h, settle_raise]

theorem exec_cacop_hit_noCache (hop : cacopOp code = 2) (hdef : cacopDefined code = false) :
    exec (.cacop code rj i) s = .refused .cacopUndefined := by
  rw [exec_cacop, execCacop, if_pos hop, hdef]
  rfl

theorem exec_cacop_storeTag (hp : crmdPlv s.csr = 0) (h : code.toNat < 3) :
    exec (.cacop code rj i) s = storeTag (code.setWidth 3) s := by
  obtain ⟨hop, hcache, hdef⟩ := cacop_storeTag_code h
  rw [exec_cacop_kernel hp, if_pos hdef, cacopOperate, if_pos hop, hcache]

theorem exec_cacop_index (hp : crmdPlv s.csr = 0) (h8 : 8 ≤ code.toNat) (h11 : code.toNat < 11) :
    exec (.cacop code rj i) s = .next { s with pc := s.pc + 4 } := by
  obtain ⟨hop, hdef⟩ := cacop_index_code h8 h11
  rw [exec_cacop_kernel hp, if_pos hdef, cacopOperate, hop]
  rfl

end

/-- Store Tag only advances on the instruction cache, and before any cached store (R354). -/
theorem storeTag_clean {cache : BitVec 3} {s : State} (h : s.ccDirty = false ∨ cache = 0) :
    storeTag cache s = .next { s with pc := s.pc + 4 } := by
  refine if_neg fun ⟨hcache, hdirty⟩ => ?_
  rcases h with h | h
  · exact Bool.false_ne_true (h.symm.trans hdirty)
  · exact hcache h

/-- Settles O55. -/
theorem cacopResult : Obligations.CacopResult := by
  refine fun code rj i s pa mat => ⟨fun hp hcode h => ?storeTag, exec_cacop_index, fun h => ⟨?icache, ?dcache, ?l2⟩,
    fun e h h16 h19 => ?raise, fun hp h => ?undefined, fun h16 h24 h3 => ?hitNoCache, fun hp hdirty h => ?discard,
    fun a => ⟨lookup_clearNeedInv s.cfg pa a s.stale, lookup_clearNeedWb s.cfg pa a s.stale⟩⟩
  case storeTag =>
    rw [exec_cacop_storeTag hp hcode]
    exact storeTag_clean (h.imp_right fun h => by rw [h]; rfl)
  case icache => exact exec_cacop_hit_ok rfl rfl h
  case dcache =>
    rw [exec_cacop_hit_ok rfl rfl h]
    by_cases hmat : mat = 1
    · rw [if_pos hmat, hitStale, if_neg (by decide), if_pos ⟨rfl, hmat⟩]
    · rw [if_neg hmat, hitStale, if_neg (by decide), if_neg fun h => hmat h.2]
  case l2 => exact exec_cacop_hit_ok rfl rfl h
  case raise =>
    obtain ⟨hop, hdef⟩ := cacop_hit_code h16 h19
    exact exec_cacop_hit_raise hop hdef h
  case undefined =>
    rw [exec_cacop_kernel hp, cacop_undefined_code h]
    rfl
  case hitNoCache =>
    obtain ⟨hop, hdef⟩ := cacop_hit_noCache_code h16 h24 h3
    exact exec_cacop_hit_noCache hop hdef
  case discard =>
    have hcode : code.toNat < 3 ∧ code.setWidth 3 ≠ 0 := by
      rcases h with rfl | rfl <;> decide
    rw [exec_cacop_storeTag hp hcode.1]
    exact if_pos ⟨hcode.2, hdirty⟩

/-- Every operation but the Hit ones raises IPE outside PLV0 (R352). -/
theorem exec_cacop_user {code : BitVec 5} {rj : Reg} {i : BitVec 12} {s : State} (hu : crmdPlv s.csr ≠ 0)
    (h : cacopOp code ≠ 2) : exec (.cacop code rj i) s = .next (enter .ipe s) := by
  rw [exec_cacop, execCacop, privileged_user _ _ hu]
  exact if_neg h

/-- Settles O38: each instruction is `privileged` around its body, but INVTLB of no op and a Hit CACOP. -/
theorem privilegedAtUserLevel : Obligations.PrivilegedAtUserLevel := by
  refine fun rd rj rk num op code si level s hu => ⟨fun i hi => ?privileged, fun hop => exec_invtlb_user hop hu,
    exec_invtlb_undefined, exec_cacop_user hu, fun pa mat h16 h19 h => ?hit⟩
  case privileged =>
    simp only [List.mem_cons, List.not_mem_nil, or_false] at hi
    rcases hi with rfl | rfl | rfl | rfl | rfl | rfl | rfl | rfl | rfl <;> exact privileged_user s _ hu
  case hit =>
    obtain ⟨hop, hdef⟩ := cacop_hit_code h16 h19
    exact ⟨_, exec_cacop_hit_ok hop hdef h, rfl, rfl, rfl, rfl, rfl⟩

end Sys2Proof.Machine
end

section
/-! PROOFS. The privilege level (60_exceptions.md R440, R441; 70_reset_and_hazards.md R470): it stays PLV0 or PLV3, at PLV3
no instruction reaches privileged state, and only an entry or a reset leaves PLV3. -/

namespace Sys2Proof.Machine

open Sys2Proof

/-! The level stays legal (R470). -/

/-- The two levels of LA32R are what the refusal of a level leaves (R32, R375). -/
theorem plv_legal {v : BitVec 2} : v ≠ 1 → v ≠ 2 → v = 0 ∨ v = 3 := by
  revert v
  decide

theorem levelLegal_of_crmd {s t : State} (h : LevelLegal s) (hc : t.csr.crmd = s.csr.crmd) : LevelLegal t := by
  unfold LevelLegal crmdPlv at h ⊢
  rwa [hc]

theorem Ordinary.levelLegal {s t : State} (h : Ordinary s t) (hs : LevelLegal s) : LevelLegal t :=
  levelLegal_of_crmd hs (by rw [h.csr])

theorem levelLegal_enter (e : Exc) (s : State) : LevelLegal (enter e s) := .inl (crmdPlv_enter e s)

/-- A CSR write reaches the level by CRMD alone, and a level it may not set is refused (R32, R344). -/
theorem levelLegal_csrWrite {s t : State} {num : BitVec 14} {v m : Word} (h : LevelLegal s)
    (hw : csrWrite s num v m = .ok t) : LevelLegal t := by
  rcases csrWrite_ok hw with rfl | ⟨c, -, -, he⟩
  · exact h
  obtain ⟨hcsr, -⟩ := csrEffect_frame he
  by_cases hc : c = .crmd
  · obtain ⟨h1, h2⟩ := (csrEffect_ok he).1 hc
    rw [LevelLegal, hcsr]
    exact plv_legal h1 h2
  · have hcrmd : (csrStored s c v m).crmd = s.csr.crmd := by
      have := stored_csrStored s c .crmd v m
      rwa [if_neg (Ne.symm hc)] at this
    exact levelLegal_of_crmd h (by rw [hcsr, hcrmd])

theorem readEntry_crmd (cfg : Config.Params) (e : TlbEntry) (c : Csrs) : (readEntry cfg e c).crmd = c.crmd := by
  unfold readEntry
  split <;> rfl

/-- ERTN restores the level from PRMD, where it is a legal one (R375). -/
theorem levelLegal_exceptionReturn {s : State} (h1 : prmdPplv s.csr ≠ 1) (h2 : prmdPplv s.csr ≠ 2) :
    LevelLegal (exceptionReturn s) := by
  obtain ⟨hplv, -, -⟩ := returnCsrs_crmd_fields s.csr
  have hlevel : crmdPlv (exceptionReturn s).csr = prmdPplv s.csr := hplv
  rw [LevelLegal, hlevel]
  exact plv_legal h1 h2

theorem PrivilegedEffect.levelLegal {s t : State} (h : PrivilegedEffect s t) (hs : LevelLegal s) : LevelLegal t := by
  cases h with
  | csrWrite read write finish => exact finish.levelLegal (levelLegal_csrWrite (read.levelLegal hs) write)
  | search hit => exact levelLegal_of_crmd hs rfl
  | readEntry e => exact levelLegal_of_crmd hs (readEntry_crmd s.cfg e s.csr)
  | setTlb draw l length => exact levelLegal_of_crmd (draw.levelLegal hs) rfl
  | ertn not1 not2 => exact levelLegal_exceptionReturn not1 not2
  | idle => exact levelLegal_of_crmd hs rfl

theorem levelLegal_exec {i : Instr} {s t : State} (h : exec i s = .next t) (hs : LevelLegal s) : LevelLegal t := by
  cases exec_effect h with
  | ordinary ho => exact ho.levelLegal hs
  | exception e => exact levelLegal_enter e s
  | privileged _ hp => exact hp.levelLegal hs

/-- A reset ends at PLV0 (R460). -/
theorem levelLegal_warmReset (s : State) : LevelLegal (warmReset s) := by
  rw [LevelLegal, warmReset_csr]
  exact .inl (show bits 0 2 0x8 = 0 by decide)

theorem levelLegal_environment {s : State} (h : LevelLegal s) : LevelLegal (environment s) :=
  levelLegal_of_crmd h (by rw [environment_csr])

/-- Settles O7: each part of a step leaves a legal level. -/
theorem stepKeepsLevelLegal : Obligations.StepKeepsLevelLegal := by
  intro s t hs h
  rcases step_cases h with ⟨-, rfl⟩ | rfl | ⟨d, ⟨e, rfl⟩ | ⟨i, -, hx⟩⟩
  · exact levelLegal_warmReset _
  · exact levelLegal_environment hs
  · exact levelLegal_enter e _
  · exact levelLegal_exec hx (levelLegal_of_crmd (levelLegal_environment hs) rfl)

/-! PLV3 (R343, R441). -/

/-- At PLV3 an instruction is an ordinary one, or ends by an exception (R343). -/
theorem exec_user_cases {i : Instr} {s t : State} (hu : crmdPlv s.csr = 3) (h : exec i s = .next t) :
    Ordinary s t ∨ ∃ e, t = enter e s := by
  cases exec_effect h with
  | ordinary ho => exact .inl ho
  | exception e => exact .inr ⟨e, rfl⟩
  | privileged kernel _ =>
    rw [hu] at kernel
    exact absurd kernel (by decide)

/-- Settles O12. -/
theorem userInstructionKeepsPrivilegedState : Obligations.UserInstructionKeepsPrivilegedState :=
  fun _ _ _ hu h => (exec_user_cases hu h).imp_left fun ho => ⟨ho.csr, ho.tlb, ho.timer, ho.idle⟩

/-- Settles O11: the environment leaves the level, and so does an ordinary instruction. -/
theorem userLevelLeftOnlyByEntry : Obligations.UserLevelLeftOnlyByEntry := by
  intro s t hu h
  have henv : crmdPlv (environment s).csr = 3 := by rwa [environment_csr]
  rcases step_cases h with hreset | rfl | ⟨d, ⟨e, rfl⟩ | ⟨i, -, hx⟩⟩
  · exact .inr (.inr hreset)
  · exact .inl henv
  · exact .inr (.inl ⟨e, d, rfl⟩)
  · have hstart : crmdPlv { environment s with idle := false, draws := d }.csr = 3 := henv
    rcases exec_user_cases hstart hx with ho | ⟨e, rfl⟩
    · exact .inl (by rwa [ho.csr])
    · exact .inr (.inl ⟨e, d, rfl⟩)

end Sys2Proof.Machine
end

section
/-! PROOFS. Exception entry, field by field (60_exceptions.md R401, R420 to R423), and a return straight after it (R430). -/

namespace Sys2Proof.Machine

open Sys2Proof

/-! The words that an entry writes. -/

/-- The level and IE are saved in PRMD (R420). -/
theorem enterCsrs_prmd_fields (e : Exc) (pc : Word) (c : Csrs) :
    bits 0 2 (enterCsrs e pc c).prmd = bits 0 2 c.crmd ∧ bits 2 1 (enterCsrs e pc c).prmd = bits 2 1 c.crmd ∧
      bits 3 29 (enterCsrs e pc c).prmd = bits 3 29 c.prmd := by
  simp [enterCsrs, bits_setBits, bits_setBits_of_disjoint]

/-- PLV 0 and IE 0; DATF and everything above stay (R420). -/
theorem enterCsrs_crmd_fields (e : Exc) (pc : Word) (c : Csrs) :
    bits 0 2 (enterCsrs e pc c).crmd = 0 ∧ bits 2 1 (enterCsrs e pc c).crmd = 0 ∧
      bits 5 27 (enterCsrs e pc c).crmd = bits 5 27 c.crmd := by
  rw [enterCsrs_crmd]
  split <;> simp [bits_setBits, bits_setBits_of_disjoint]

/-- DA = 1 and PG = 0 for the TLB refill, the mode as it was for any other exception (R422). -/
theorem enterCsrs_crmd_mode (e : Exc) (pc : Word) (c : Csrs) :
    bits 3 2 (enterCsrs e pc c).crmd = if isRefill e then 1#2 else bits 3 2 c.crmd := by
  rw [enterCsrs_crmd]
  split
  · refine BitVec.eq_of_getLsbD_eq fun i hi => ?_
    rw [getLsbD_bits, getLsbD_setBits _ _ _ _ (by omega), getLsbD_setBits _ _ _ _ (by omega)]
    interval_cases i <;> rfl
  · rw [bits_setBits_of_disjoint _ _ _ _ _ (by omega), bits_setBits_of_disjoint _ _ _ _ _ (by omega)]

/-- The two codes go into ESTAT; IS and bit 31 stay (R420). -/
theorem enterCsrs_estat_fields (e : Exc) (pc : Word) (c : Csrs) :
    bits 16 6 (enterCsrs e pc c).estat = ecodeOf e ∧ bits 22 9 (enterCsrs e pc c).estat = esubcodeOf e ∧
      bits 0 16 (enterCsrs e pc c).estat = bits 0 16 c.estat ∧ bit 31 (enterCsrs e pc c).estat = bit 31 c.estat := by
  simp [enterCsrs, bits_setBits, bits_setBits_of_disjoint, bit_setBits]

/-- BADV takes the address, where the exception records one (R421). -/
theorem enterCsrs_badv (e : Exc) (pc : Word) (c : Csrs) :
    (enterCsrs e pc c).badv = (badAddress e).getD c.badv := by
  unfold enterCsrs
  cases badAddress e <;> rfl

/-- VPPN takes bits [31:13] of the address of a TLB-related exception; the rest of TLBEHI stays (R421). -/
theorem enterCsrs_tlbehi_fields (e : Exc) (pc : Word) (c : Csrs) :
    bits 13 19 (enterCsrs e pc c).tlbehi = ((tlbAddress e).map (bits 13 19)).getD (bits 13 19 c.tlbehi) ∧
      bits 0 13 (enterCsrs e pc c).tlbehi = bits 0 13 c.tlbehi := by
  cases h : tlbAddress e with
  | none =>
    rw [enterCsrs_tlbehi_none h]
    exact ⟨rfl, rfl⟩
  | some va =>
    rw [enterCsrs_tlbehi_some h]
    exact ⟨bits_setBits _ _ _ (by omega), bits_setBits_of_disjoint _ _ _ _ _ (by omega)⟩

/-- An entry goes to its entry register's bits [31:6], then six zeros (R422, R423). -/
theorem handlerOf_eq (e : Exc) (c : Csrs) :
    handlerOf e c = (if isRefill e then c.tlbrentry else c.eentry) &&& 0xFFFFFFC0 := by
  have hmask : (0xFFFFFFC0 : Word) = ~~~lowMask 6 := by decide
  rw [handlerOf, hmask]
  split <;> rfl

theorem isRefill_iff (e : Exc) : isRefill e = true ↔ ∃ va, e = .tlbr va := by
  cases e <;> simp [isRefill]

/-- Settles O36: an entry word by word; the rows of R401 hold by definition. -/
theorem exceptionEntryEffect : Obligations.ExceptionEntryEffect := by
  refine fun e s => ⟨⟨enterCsrs e s.pc s.csr, ?next, rfl, ?fields⟩, isRefill_iff e, fun va => rfl⟩
  case next => rw [enter, handlerOf_eq]
  case fields =>
    obtain ⟨hpplv, hpie, hprmd⟩ := enterCsrs_prmd_fields e s.pc s.csr
    obtain ⟨hplv, hie, hcrmd⟩ := enterCsrs_crmd_fields e s.pc s.csr
    obtain ⟨hecode, hesub, his, htop⟩ := enterCsrs_estat_fields e s.pc s.csr
    exact ⟨hpplv, hpie, hprmd, hplv, hie, hcrmd, enterCsrs_crmd_mode e s.pc s.csr, hecode, hesub, his, htop,
      enterCsrs_badv e s.pc s.csr, enterCsrs_tlbehi_fields e s.pc s.csr⟩

/-! Entry, then return (R420, R430). -/

/-- The TLB refill is the exception of Ecode 0x3F (R401). -/
theorem ecodeOf_eq_refill_iff (e : Exc) : ecodeOf e = 0x3F ↔ isRefill e = true := by
  cases e <;> simp [ecodeOf, isRefill, ecodeTlbr]

/-- CRMD is its PLV, its IE, its translation mode and the rest (R32). -/
theorem crmd_ext {v w : Word} (hplv : bits 0 2 v = bits 0 2 w) (hie : bits 2 1 v = bits 2 1 w)
    (hmode : bits 3 2 v = bits 3 2 w) (hrest : bits 5 27 v = bits 5 27 w) : v = w := by
  have hsplit (x : Word) : x = bits 5 27 x ++ bits 3 2 x ++ bits 2 1 x ++ bits 0 2 x := by
    refine BitVec.eq_of_getLsbD_eq fun i hi => ?_
    simp only [BitVec.getLsbD_append, getLsbD_bits]
    grind
  rw [hsplit v, hsplit w, hplv, hie, hmode, hrest]

/-- Mapped mode: DA = 0 and PG = 1 (R32). -/
theorem crmd_mode_mapped {c : Csrs} (hda : crmdDa c = false) (hpg : crmdPg c = true) : bits 3 2 c.crmd = 2#2 := by
  refine BitVec.eq_of_getLsbD_eq fun i hi => ?_
  rw [getLsbD_bits, decide_eq_true hi, Bool.true_and]
  interval_cases i
  · exact hda
  · exact hpg

/-- A return straight after an entry restores CRMD, when a refill came from the mapped mode (R422, R430). -/
theorem returnCsrs_enterCsrs_crmd {e : Exc} {c : Csrs} (pc : Word)
    (h : isRefill e = true → crmdDa c = false ∧ crmdPg c = true) :
    (returnCsrs (enterCsrs e pc c)).crmd = c.crmd := by
  obtain ⟨hpplv, hpie, -⟩ := enterCsrs_prmd_fields e pc c
  obtain ⟨-, -, hrest⟩ := enterCsrs_crmd_fields e pc c
  obtain ⟨hecode, -⟩ := enterCsrs_estat_fields e pc c
  obtain ⟨hplv', hie', hrest'⟩ := returnCsrs_crmd_fields (enterCsrs e pc c)
  refine crmd_ext (hplv'.trans hpplv) (hie'.trans hpie) ?mode (hrest'.trans hrest)
  case mode =>
    rw [returnCsrs_crmd_mode, hecode, enterCsrs_crmd_mode]
    by_cases hr : isRefill e = true
    · obtain ⟨hda, hpg⟩ := h hr
      rw [if_pos ((ecodeOf_eq_refill_iff e).2 hr), crmd_mode_mapped hda hpg]
    · rw [if_neg (mt (ecodeOf_eq_refill_iff e).1 hr), if_neg hr]

/-- At PLV0 an ERTN that answers a next state is the return (R375). -/
theorem exec_ertn_next {s t : State} (hp : crmdPlv s.csr = 0) (h : exec .ertn s = .next t) : t = exceptionReturn s := by
  rw [exec_ertn, execErtn, privileged_kernel _ _ hp] at h
  split at h
  · cases h
  · cases h
    rfl

theorem exec_ertn_legal {s : State} (hp : crmdPlv s.csr = 0) (h : prmdPplv s.csr = 0 ∨ prmdPplv s.csr = 3) :
    exec .ertn s = .next (exceptionReturn s) := by
  rw [exec_ertn, execErtn, privileged_kernel _ _ hp, if_neg]
  rcases h with h | h <;> rw [h] <;> decide

/-- Settles O40: the level that PRMD saves is legal, so ERTN returns. -/
theorem entryThenErtnRestores : Obligations.EntryThenErtnRestores := by
  intro e s hlevel hmode
  have hsaved : prmdPplv (enter e s).csr = crmdPlv s.csr := (enterCsrs_prmd_fields e s.pc s.csr).1
  refine ⟨_, exec_ertn_legal (crmdPlv_enter e s) (by rwa [hsaved]), ?_⟩
  exact ⟨rfl, returnCsrs_enterCsrs_crmd s.pc hmode, rfl, rfl, rfl⟩

end Sys2Proof.Machine
end

section
/-! PROOFS. The interrupt sources, the timer and the boundary (60_exceptions.md R410 to R413, R445, R450;
70_reset_and_hazards.md R460). -/

namespace Sys2Proof.Machine

open Sys2Proof

/-! The interrupt vector (R411, R412). -/

theorem getLsbD_flag (b : Bool) (i : Nat) : (flag b).getLsbD i = if i = 0 then b else false := by
  rw [flag, BitVec.getLsbD_ofBool]
  split <;> simp [*]

/-- The bits of ESTAT.IS by source (R36). -/
theorem getLsbD_estatIs (s : State) (i : Nat) :
    (estatIs s).getLsbD i =
      if i < 2 then bit i s.csr.estat else if i < 10 then s.hwi.getLsbD (i - 2)
      else if i = 11 then s.timer.pending else if i = 12 then s.ipi else false := by
  simp only [estatIs, bit, BitVec.getLsbD_append, getLsbD_bits, getLsbD_flag, BitVec.getLsbD_zero]
  grind

/-- The bits of ECFG.LIE: bit 10 is none (R35). -/
theorem getLsbD_ecfgLie (c : Csrs) {i : Nat} (hi : i < 13) :
    (ecfgLie c).getLsbD i = (bit i c.ecfg && decide (i ≠ 10)) := by
  have hmask : (0x1BFF#13).getLsbD i = decide (i ≠ 10) := by
    interval_cases i <;> rfl
  rw [ecfgLie, BitVec.getLsbD_and, getLsbD_bits, hmask, Nat.zero_add, decide_eq_true hi, Bool.true_and]
  rfl

/-- The vector holds a source where a bit of IS and its bit of LIE are 1 (R412). -/
theorem intVector_iff (s : State) :
    intVector s = true ↔ ∃ i, i < 13 ∧ (estatIs s).getLsbD i = true ∧ bit i s.csr.ecfg = true ∧ i ≠ 10 := by
  rw [intVector, bne_iff_ne, Ne, BitVec.eq_of_getLsbD_eq_iff]
  simp only [not_forall, exists_prop]
  refine exists_congr fun i => and_congr_right fun hi => ?_
  rw [BitVec.getLsbD_and, getLsbD_ecfgLie s.csr hi, show (0 : BitVec 13).getLsbD i = false from BitVec.getLsbD_zero,
    Bool.not_eq_false, Bool.and_eq_true, Bool.and_eq_true, decide_eq_true_eq]

/-- Settles O42: the thirteen bits of the vector, source by source. -/
theorem interruptSources : Obligations.InterruptSources := by
  refine fun s => ⟨Bool.and_eq_true_iff, ?sources⟩
  case sources =>
    rw [intVector_iff]
    simp only [getLsbD_estatIs]
    constructor
    · rintro ⟨i, hi, his, hlie, h10⟩
      by_cases hsoftware : i < 2
      · rw [if_pos hsoftware] at his
        interval_cases i
        · exact .inl ⟨his, hlie⟩
        · exact .inr (.inl ⟨his, hlie⟩)
      · rw [if_neg hsoftware] at his
        by_cases hline : i < 10
        · rw [if_pos hline] at his
          exact .inr (.inr (.inl ⟨i - 2, by omega, his, by rwa [show i - 2 + 2 = i by omega]⟩))
        · rw [if_neg hline] at his
          obtain rfl | rfl : i = 11 ∨ i = 12 := by omega
          · exact .inr (.inr (.inr (.inl ⟨his, hlie⟩)))
          · exact .inr (.inr (.inr (.inr ⟨his, hlie⟩)))
    · rintro (⟨his, hlie⟩ | ⟨his, hlie⟩ | ⟨k, hk, his, hlie⟩ | ⟨his, hlie⟩ | ⟨his, hlie⟩)
      · exact ⟨0, by omega, his, hlie, by omega⟩
      · exact ⟨1, by omega, his, hlie, by omega⟩
      · refine ⟨k + 2, by omega, ?_, hlie, by omega⟩
        rwa [if_neg (by omega), if_pos (by omega)]
      · exact ⟨11, by omega, his, hlie, by omega⟩
      · exact ⟨12, by omega, his, hlie, by omega⟩

/-! The timer (R445). -/

section
variable (cfg : Config.Params) (c : Csrs) {t : Timer}

theorem tick_stopped (h : t.running = false) : tick cfg c t = t := by
  rw [tick, h]
  rfl

theorem ticks_stopped (h : t.running = false) (n : Nat) : ticks cfg c n t = t := by
  induction n with
  | zero => rfl
  | succ n ih => rw [ticks, tick_stopped cfg c h, ih]

/-- A tick with more than one left counts down. -/
theorem tick_counts (h : t.running = true) (hc : 1 < t.count.toNat) :
    tick cfg c t = { t with count := t.count - 1 } := by
  have hzero : t.count ≠ 0 := by bv_omega
  have hone : t.count - 1 ≠ 0 := by bv_omega
  simp only [tick, h, if_true, if_neg hzero, if_neg hone]

/-- The last tick raises TI, and reloads a periodic timer or stops a one-shot one. -/
theorem tick_expires (h : t.running = true) (hc : t.count.toNat ≤ 1) :
    tick cfg c t = if bit 1 c.tcfg = true then { t with count := timerStart cfg c, pending := true }
      else { count := 0, running := false, expired := true, pending := true } := by
  have hlast : (if t.count = 0 then 0 else t.count - 1) = 0 := by
    split
    · rfl
    · bv_omega
  simp only [tick, h, if_true, hlast, tcfgPeriodic]

/-- Fewer ticks than the count only count down. -/
theorem ticks_count (h : t.running = true) {n : Nat} (hn : n < t.count.toNat) :
    ticks cfg c n t = { t with count := t.count - BitVec.ofNat 32 n } := by
  induction n generalizing t with
  | zero => rw [ticks, BitVec.sub_zero]
  | succ n ih =>
    have hleft : n < (t.count - 1).toNat := by bv_omega
    have hsum : t.count - 1 - BitVec.ofNat 32 n = t.count - BitVec.ofNat 32 (n + 1) := by bv_omega
    rw [ticks, tick_counts cfg c h (by omega), ih (t := { t with count := t.count - 1 }) h hleft, hsum]

/-- With its counts used up, or with none to use, the next tick is the last one. -/
theorem ticks_expire (h : t.running = true) :
    ticks cfg c (t.count.toNat - 1 + 1) t =
      if bit 1 c.tcfg = true then { t with count := timerStart cfg c, pending := true }
      else { count := 0, running := false, expired := true, pending := true } := by
  rw [ticks_add]
  by_cases hc : t.count.toNat = 0
  · rw [hc]
    exact tick_expires cfg c h (hc.trans_le (by omega))
  · have hleft : (t.count - BitVec.ofNat 32 (t.count.toNat - 1)).toNat ≤ 1 := by bv_omega
    rw [ticks_count cfg c h (by omega)]
    exact tick_expires cfg c h hleft

/-- A periodic timer that holds 0 and is loaded with 0 raises TI at every tick. -/
theorem ticks_periodic_zero (h : t.running = true) (hp : bit 1 c.tcfg = true) (hc : t.count = 0)
    (hstart : timerStart cfg c = 0) (n : Nat) : ticks cfg c (n + 1) t = { t with pending := true } := by
  have htick (u : Timer) (hu : u.running = true) (hz : u.count = 0) : tick cfg c u = { u with pending := true } := by
    rw [tick_expires cfg c hu (by rw [hz]; decide), if_pos hp, hstart, ← hz]
  induction n with
  | zero => exact htick t h hc
  | succ n ih =>
    rw [ticks_add cfg c (n + 1) 1, ih]
    exact htick _ h hc

end

/-- Settles O58: the clauses for what happens at zero are one lemma, the last tick of those the timer had left. -/
theorem timerTicks : Obligations.TimerTicks := by
  refine fun cfg c t n => ⟨fun h => ticks_stopped cfg c h n, fun h => ticks_count cfg c h, fun h hp h0 hn => ?oneShot,
    fun h hp hc => ?periodic, fun h hp hc => ?periodicZero, fun h hp hc hstart hn => ?loadedWithZero⟩
  case oneShot =>
    have hsplit : n = t.count.toNat - 1 + 1 + (n - (t.count.toNat - 1 + 1)) := by omega
    rw [hsplit, ticks_add, ticks_expire cfg c h, if_neg (by rw [hp]; decide)]
    exact ticks_stopped cfg c rfl _
  case periodic =>
    have hexpire := ticks_expire cfg c h
    rwa [if_pos hp, Nat.sub_add_cancel hc] at hexpire
  case periodicZero =>
    have hexpire := ticks_expire cfg c h
    rwa [if_pos hp, hc] at hexpire
  case loadedWithZero =>
    have := ticks_periodic_zero cfg c h hp hc hstart (n - 1)
    rwa [Nat.sub_add_cancel hn] at this

end Sys2Proof.Machine
end

section
/-! PROOFS. The step at a boundary (60_exceptions.md R410, R412, R450; 44_atomic_barrier.md R304; 70_reset_and_hazards.md
R460): the instruction it runs, what the environment does, the interrupt, the reset. -/

namespace Sys2Proof.Machine

open Sys2Proof

/-! The instruction (R25, R450). -/

theorem step_of_run {s t : State} (h : boundary s = .run t) : step s = runInstr t := by
  rw [step, h]

/-- The instruction at the PC is the one executed; what its word decodes to is well-formed as it is (R450). -/
theorem runInstr_of_decode {t : State} {w : Word} {i : Instr} (hf : fetchWord t = .ok w) (hd : decode w = .ok i) :
    runInstr t = exec i t := by
  rw [runInstr, fetchInstr, hf, andThen_ok, decodeWord, hd, settle_ok]

/-- Settles O1. -/
theorem stepRunsDecodedInstruction : Obligations.StepRunsDecodedInstruction :=
  ⟨fun _ _ _ _ hb hf hd _ => (step_of_run hb).trans (runInstr_of_decode hf hd),
    fun _ _ _ hq hf hd _ => (step_of_quiet hq).trans (runInstr_of_decode hf hd), fun _ _ => step_of_run,
    fun _ => step_of_quiet, fun _ _ _ hf hd _ => runInstr_of_decode hf hd⟩

/-! The environment (R156, R304, R450). -/

theorem environment_of_event {s : State} {e : EnvEvent} {rest : List EnvEvent} (h : s.env = e :: rest) :
    environment s = applyEvent e { s with env := rest } := by
  rw [environment, h]

/-- What an entry does after the other agents' stores, which leave the parameters, the CSRs and the timer (R450). -/
theorem applyEvent_eq (e : EnvEvent) (s : State) :
    applyEvent e s =
      { e.writes.foldl otherStore s with
          llbit := (e.writes.foldl otherStore s).llbit && !e.clearLlbit, hwi := e.hwi, ipi := e.ipi,
          timer := ticks s.cfg s.csr e.ticks s.timer } := by
  obtain ⟨m, b, hu, -⟩ := otherStores_spec e.writes s
  simp only [applyEvent, deliverTicks, hu]

/-- Where no entry is listed a running timer ticks, and nothing else happens (R445). -/
theorem environment_of_none {s : State} (h : s.env = []) :
    environment s = if s.timer.running then deliverTicks (Config.freeCount s.draws) (drawn s) else s := by
  rw [environment, h]

theorem resetAsserted_of_none {s : State} (h : s.env = []) : resetAsserted s = false := by
  rw [resetAsserted, h]

/-- Another agent's store of a byte: memory, and LLbit by the line (R156, R304). -/
theorem otherStore_of_exists {s : State} {c : Host.Cell} (h : physExists s.cfg c.1 = true) :
    otherStore s c = { s with mem := writeByte s.mem c.1 c.2,
                              llbit := s.llbit && !decide (lineOf s.cfg c.1 = lineOf s.cfg s.lladdr) } :=
  if_pos h

theorem otherStore_of_not_exists {s : State} {c : Host.Cell} (h : physExists s.cfg c.1 = false) :
    otherStore s c = s :=
  if_neg (by rw [h]; decide)

/-- Settles O33. -/
theorem llbitCleared : Obligations.LlbitCleared := by
  refine ⟨fun s e rest h => ⟨?reset, _, rfl, ?listed⟩, fun s h => ⟨resetAsserted_of_none h, environment_of_none h⟩,
    fun s t c e hm => ⟨fun h => ?stored, otherStore_of_not_exists, rfl, fun hp h => ?ertn⟩⟩
  case reset => rw [resetAsserted, h]
  case listed => rw [environment_of_event h, applyEvent_eq]
  case stored =>
    refine ⟨_, _, otherStore_of_exists h, readByte_writeByte_same _ _ _ hm,
      fun a ha => readByte_writeByte_other _ _ _ _ ha, fun hline => ?inLine, fun hline => ?outsideLine⟩
    case inLine =>
      have hsame : lineOf s.cfg c.1 = lineOf s.cfg s.lladdr := hline
      rw [decide_eq_true hsame, Bool.not_true, Bool.and_false]
    case outsideLine =>
      have hother : lineOf s.cfg c.1 ≠ lineOf s.cfg s.lladdr := hline
      rw [decide_eq_false hother, Bool.not_false, Bool.and_true]
  case ertn => rw [exec_ertn_next hp h, exceptionReturn_eq]

/-! The interrupt (R410, R412). -/

section
variable {s : State} (henv : s.env = []) (htimer : s.timer.running = false) (hmode : crmdDa s.csr ≠ crmdPg s.csr)
  (hidle : s.idle = false) (hpending : intPending s = true)
include henv htimer hmode hidle

/-- A boundary where nothing happens but an interrupt may be pending. -/
theorem boundary_of_still : boundary s = interruptPoint s s := by
  have hsame : environment s = s := by
    rw [environment_of_none henv, htimer]
    rfl
  have hawake : { s with idle := false } = s := by rw [← hidle]
  simp only [boundary, hsame, resetAsserted_of_none henv, hmode, hidle, hawake, Bool.false_and, Bool.false_eq_true,
    if_false]

include hpending

/-- The choice decides between the interrupt and the instruction (R450). -/
theorem step_of_pending :
    step s = if (interruptChoice s s).1 then .next (enter .int (interruptChoice s s).2)
      else runInstr (interruptChoice s s).2 := by
  rw [step, boundary_of_still henv htimer hmode hidle, interruptPoint, if_pos hpending]
  by_cases htaken : (interruptChoice s s).1 = true
  · simp only [if_pos htaken]
  · simp only [if_neg htaken]

end

/-- Settles O43: under immediate latency the choice is fixed, under any latency it is a draw. -/
theorem interruptIsTaken : Obligations.InterruptIsTaken := by
  refine fun s henv htimer hmode hidle hpending => ⟨fun hlatency => ?immediate, fun hlatency => ?any⟩
  case immediate =>
    have hchoice : interruptChoice s s = (true, s) := by rw [interruptChoice, hlatency]
    rw [step_of_pending henv htimer hmode hidle hpending, hchoice]
    rfl
  case any =>
    have hchoice : interruptChoice s s = (Config.freeChoice s.draws, drawn s) := by
      simp only [interruptChoice, hlatency, henv]
    rw [step_of_pending henv htimer hmode hidle hpending, hchoice]
    rfl

/-! The reset (R460). -/

/-- Reset comes before everything else at a boundary (R450). -/
theorem step_of_reset {s : State} (h : resetAsserted s = true) : step s = .next (warmReset (environment s)) := by
  rw [step, boundary, if_pos h]

/-- A reset gives CRMD, EUEN, ECFG and LLBCTL values of no free bit (R460). -/
theorem resetCsrs_fixed (s : State) :
    bits 0 9 (resetCsrs s).crmd = 8 ∧ bit 0 (resetCsrs s).euen = false ∧ bits 0 13 (resetCsrs s).ecfg = 0 ∧
      llbctlKlo (resetCsrs s) = false := by
  simp only [resetCsrs, llbctlKlo]
  decide

/-- A bit outside the mask of a masked free word is 0. -/
theorem bit_and_mask {k : Nat} (w : Word) {m : Word} (hm : bit k m = false) : bit k (w &&& m) = false := by
  rw [bit_and, hm, Bool.and_false]

/-- A reset leaves the software interrupt bits of ESTAT 0 (R460). -/
theorem resetCsrs_estat_is (s : State) : bits 0 2 (resetCsrs s).estat = 0 := by
  have hmask : bits 0 2 0x7FFF0000 = 0 := by decide
  rw [resetCsrs, bits_and, hmask]
  exact BitVec.and_zero

/-- A reset disables the timer (R460). -/
theorem resetCsrs_tcfgEn (s : State) : tcfgEn (resetCsrs s) = false :=
  bit_and_mask (m := ~~~lowMask 1) _ (by decide)

/-- A reset leaves both windows usable at no level (R460). -/
theorem resetCsrs_windows (s : State) :
    bit 0 (resetCsrs s).dmw0 = false ∧ bit 3 (resetCsrs s).dmw0 = false ∧ bit 0 (resetCsrs s).dmw1 = false ∧
      bit 3 (resetCsrs s).dmw1 = false := by
  have h0 : bit 0 0xEE000030 = false := by decide
  have h3 : bit 3 0xEE000030 = false := by decide
  exact ⟨bit_and_mask _ h0, bit_and_mask _ h3, bit_and_mask _ h0, bit_and_mask _ h3⟩

/-- Settles O60: the fields of `warmReset` by its own lemmas, the CSRs by those above. -/
theorem resetAtABoundary : Obligations.ResetAtABoundary := by
  intro s h
  obtain ⟨hcrmd, heuen, hecfg, hklo⟩ := resetCsrs_fixed (environment s)
  refine ⟨_, step_of_reset h, ?_⟩
  simp only [warmReset_pc, warmReset_csr, warmReset_running, warmReset_idle, warmReset_stale, warmReset_ccDirty,
    warmReset_mem, readReg_zero, true_and, and_true]
  exact ⟨hcrmd, heuen, hecfg, resetCsrs_estat_is _, resetCsrs_tcfgEn _, hklo, resetCsrs_windows _⟩

end Sys2Proof.Machine
end
